-- ==== Sys2Proof/Word.lean ====
section
/-! DEFINITION. The bit-vector types the manual treats as words or as sets of bits, and their plainest operations. -/

namespace Sys2Proof

/-- One byte of the management port, and an 8-bit epoch. -/
abbrev Byte := BitVec 8

/-- A 16-bit field: a fingerprint, a flow hash, a CRC, an answer word on LKA. -/
abbrev Half := BitVec 16

/-- A value of the 32-bit time base (00 Conventions, R17). -/
abbrev Stamp := BitVec 32

/-- A set of factors: bit 2 LOS, bit 1 LOCK, bit 0 HB (11, Management port bytes). -/
abbrev FactorSet := BitVec 3

/-- A set of station codes: bit k stands for station code k (11, Management port bytes). -/
abbrev StationSet := BitVec 16

namespace FactorSet

/-- The factor LOS alone. -/
def los : FactorSet := 4#3

/-- The factor LOCK alone. -/
def lock : FactorSet := 2#3

/-- The factor HB alone. -/
def hb : FactorSet := 1#3

/-- `a` holds every factor of `b`. -/
def has (a b : FactorSet) : Bool := a &&& b == b

/-- `a` with the factors of `b` added (`on`) or taken out. -/
def put (a b : FactorSet) (on : Bool) : FactorSet := if on then a ||| b else a &&& ~~~b

end FactorSet

namespace StationSet

/-- The station code `k` is in the set. -/
def has (a : StationSet) (k : Fin 16) : Bool := a.getLsbD k.val

/-- The set that holds the station code `k` alone. -/
def single (k : Fin 16) : StationSet := BitVec.twoPow 16 k.val

end StationSet

/-- The bits of a field in the order sent, most significant first (11, R46). -/
def msbFirst (w : Nat) (x : BitVec w) : List Bool := (List.range w).map fun i => x.getMsbD i

/-- The bytes of a 16-bit field, most significant first (11). -/
def halfBytes (x : Half) : List Byte := [x.extractLsb' 8 8, x.extractLsb' 0 8]

/-- The bytes of a 32-bit field, most significant first (11). -/
def stampBytes (x : Stamp) : List Byte :=
  [x.extractLsb' 24 8, x.extractLsb' 16 8, x.extractLsb' 8 8, x.extractLsb' 0 8]

end Sys2Proof
end

