-- ==== Sys2Proof/Syntax.lean ====
section
/-! DEFINITION. The commands of the part: one constructor per row of spec/opcode_table.json, with the row's operands. -/

namespace Sys2Proof

/-- The state recorded for an uplink (R1, R2); its code on the lane and the port is its place here (11). -/
inductive MapState where
  | inService | dark | drained | absent
  deriving DecidableEq, Repr

/-- One record of a notice (R46, field 7). -/
structure Record where
  index : Fin 4
  state : MapState
  epoch : Byte
  cause : FactorSet
  deriving DecidableEq, Repr

/-- A notice's fields as a receiver read them from the kind to the decision pause (R46, fields 2 to 9).
The receiver finds `count + 1` records (R56): the first ones of `r0` to `r3`. -/
structure RxNotice where
  kind : BitVec 2
  sender : Fin 16
  join : Bool
  count : BitVec 2
  fingerprint : Half
  r0 : Record
  r1 : Record
  r2 : Record
  r3 : Record
  crc : Half
  pause : BitVec 2
  deriving DecidableEq, Repr

/-- SET UPLINK's argument bytes in the order sent (R153, 11). -/
structure UplinkArgs where
  index : Byte
  enabled : Byte
  mask : Byte
  tq : Byte
  hbMin : Half
  hbMax : Half
  n : Byte
  clearMode : Byte
  deriving DecidableEq, Repr

/-- The commands and events the part takes, each one whole step (95). -/
inductive Instr where
  /-- Power-up or RST going low; the straps are read (R19, R63). -/
  | fullReset (straps : Fin 16)
  /-- RST is released (R140, R149). -/
  | rstRelease
  /-- MCS rises before the command is taken (R149). -/
  | frameDiscard
  /-- A command byte that names no command (R149). -/
  | unknownCommand (code : Byte)
  /-- SET STATION, code 1 (R152). -/
  | setStation (fingerprint : Half) (period silence : Byte)
  /-- SET UPLINK, code 2 (R153). -/
  | setUplink (args : UplinkArgs)
  /-- WRITE GROUP, code 3, with the argument bytes as sent (R154). -/
  | writeGroup (args : List Byte)
  /-- CLEAR GROUP, code 4 (R155). -/
  | clearGroup (group : Byte)
  /-- START, code 5 (R84, R155). -/
  | start
  /-- DRAIN, code 16 (R36, R156). -/
  | drain (index : Byte)
  /-- UNDRAIN, code 17 (R37, R156). -/
  | undrain (index : Byte)
  /-- RELEASE, code 18 (R38, R156). -/
  | release (index : Byte)
  /-- RESTEER, code 19 (R127, R157). -/
  | resteer (group : Byte)
  /-- LEAVE, code 20 (R87). -/
  | leave
  /-- REJOIN, code 21 (R88). -/
  | rejoin
  /-- RESTART, code 22 (R90). -/
  | restart
  /-- SET EVENT REPORTING, code 23 (R158). -/
  | setEventReporting (trigger timeout : Byte)
  /-- READ STATUS, code 32 (R159). -/
  | readStatus
  /-- READ EVENTS, code 33 (R160). -/
  | readEvents (n : Byte)
  /-- READ MAP, code 34 (R16, R161). -/
  | readMap (which : Byte)
  /-- READ ROSTER, code 35 (R162). -/
  | readRoster
  /-- READ GROUP, code 36 (R117, R162). -/
  | readGroup (group : Byte)
  /-- PROBE, code 37 (R115, R162). -/
  | probe (group : Byte) (hash : Half)
  /-- A lookup strobed on LKQ: group id in bits 23 to 16, flow hash in bits 15 to 0 (R138, 11). -/
  | lookupRequest (word : BitVec 24)
  /-- A TAKE strobed on TKQ (R138). -/
  | takeRequest
  /-- The oldest outstanding request, a lookup, is served (R139). -/
  | lookupService
  /-- The oldest outstanding request, a TAKE, is served (R143). -/
  | takeService
  /-- The level of LOS line `i` becomes `high` (R23). -/
  | losChange (i : Fin 4) (high : Bool)
  /-- The level of LCK line `i` becomes `high` (R23). -/
  | lockChange (i : Fin 4) (high : Bool)
  /-- A rising edge on HB line `i` (R24). -/
  | heartbeatPulse (i : Fin 4)
  /-- The heartbeat watchdog of detector `i` expires (R25). -/
  | heartbeatWatchdogExpiry (i : Fin 4)
  /-- The qualify timer of detector `i` expires (R29). -/
  | qualifyTimerExpiry (i : Fin 4)
  /-- The restore-hold timer of detector `i` expires (R34). -/
  | restoreHoldExpiry (i : Fin 4)
  /-- The stability timer of detector `i` expires (R31). -/
  | stabilityTimerExpiry (i : Fin 4)
  /-- The end of a quiet gap (R45). -/
  | quietGapEnd
  /-- The Lane Interface offers a start (R48). -/
  | noticeStartOffer
  /-- The transmitter loses arbitration (R49). -/
  | arbitrationLost
  /-- The transmitter reads a mismatch (R49, R50). -/
  | txMismatch
  /-- The eighth bit time of the own abort pattern ends (R51, R52). -/
  | abortPatternEnd
  /-- The own notice completes; bit k of `slots` says that slot k read dominant (R50, R52). -/
  | noticeCompleted (slots : StationSet)
  /-- The end of the decision pause of the notice on the lane, with its fields as received (R56). -/
  | noticeDecision (n : RxNotice)
  /-- A bit time dominant through its trail is seen (R55). -/
  | receiveAbort
  /-- A bit time with no lead is seen in mid-notice (R55). -/
  | receiveTruncation
  /-- A lead followed by a recessive value in the start mark (R54). -/
  | badStartMark
  /-- The silence timer of peer `k` expires (R96). -/
  | silenceTimerExpiry (k : Fin 16)
  /-- The beacon timer expires (R69). -/
  | beaconTimerExpiry
  /-- The join window timer expires (R85, R86). -/
  | joinWindowExpiry
  /-- The isolation cool-down timer expires (R89). -/
  | cooldownExpiry
  /-- The evaluation in flight commits (R111). -/
  | evaluationCommit
  /-- The Event Queue's idle timer expires (R167). -/
  | idleTimerExpiry
  /-- A dominant level on the lane (R45, R54). -/
  | laneDominantLevel
  /-- The transmitter reaches the end of its arbitration field without having lost (R49). -/
  | arbitrationWon
  /-- The end of the second end bit, or a bit time with no lead, of a notice taken (R54). -/
  | receivedNoticeEnd
  deriving DecidableEq, Repr

end Sys2Proof
end

