-- ==== Sys2Proof/Config.lean ====
section
/-! DEFINITION. The figures the manual fixes, in ticks of one 50 ns bit time, and the model's free choice. -/

namespace Sys2Proof.Config

/-- Ticks in one microsecond: a bit time is 50 ns (R44). -/
def ticksPerUs : Nat := 20

/-- The eight bit times of an abort pattern (R51). -/
def abortTicks : Nat := 8

/-- The twelve bit times of a quiet gap (R45). -/
def quietTicks : Nat := 12

/-- The 0.4 µs of one evaluation (R105). -/
def evaluationTicks : Nat := 8

/-- The 100 ms isolation cool-down (R89). -/
def cooldownTicks : Nat := 100000 * ticksPerUs

/-- The 125 ms unit of a restore hold's base (R30). -/
def holdUnitTicks : Nat := 125000 * ticksPerUs

/-- The 10 µs unit of HBmin and HBmax (R22). -/
def heartbeatUnitTicks : Nat := 10 * ticksPerUs

/-- The 0.1 ms unit of the idle timeout (R167). -/
def idleUnitTicks : Nat := 100 * ticksPerUs

/-- Consecutive transmit faults before isolation, and misses before a peer is deaf (R53, R71). -/
def faultLimit : Nat := 8

/-- Sends allowed per own record at one epoch (R73). -/
def sendLimit : Nat := 4

/-- Outstanding requests at the lookup port (R138). -/
def requestLimit : Nat := 4

/-- Group ids the invalidation queue holds (R141). -/
def invalidationLimit : Nat := 16

/-- Records the Event Queue holds (R163). -/
def eventLimit : Nat := 32

/-- References the member index holds in all (R125). -/
def indexLimit : Nat := 4096

/-- The filler value on MDO (11). -/
def filler : Byte := 0xFF#8

/-- FREE VALUE. Which of several of the part's own events that fall together is taken first.
The manual gives the outcome of each order and picks none (R15, R39, R91, R97, R129); log 2. -/
opaque freeChoice : Nat → Nat

end Sys2Proof.Config
end

