-- ==== Sys2Proof/Machine/Table.lean ====
section
/-! DEFINITION. A table of fixed size kept at its indexes: the map, the roster, the Steering Table. -/

namespace Sys2Proof.Machine

/-- `n` cells kept at the indexes 0 to n - 1. Cells are never added or removed (R1, R64, R92, R101). -/
structure Table (α : Type) (n : Nat) where
  cells : List α
  size : cells.length = n
  deriving DecidableEq, Repr

namespace Table

variable {α β : Type} {n : Nat}

/-- The cell at index `i`. -/
def get (t : Table α n) (i : Fin n) : α := t.cells.get (i.cast t.size.symm)

/-- The table with `a` at index `i`. -/
def set (t : Table α n) (i : Fin n) (a : α) : Table α n :=
  ⟨t.cells.set i.val a, by rw [List.length_set]; exact t.size⟩

/-- The table whose cell at `i` is `f i`. -/
def tabulate (f : Fin n → α) : Table α n := ⟨List.ofFn f, List.length_ofFn⟩

/-- The table that holds `a` at every index. -/
def fill (a : α) : Table α n := tabulate fun _ => a

/-- The cell at `i` changed by `f`. -/
def modify (t : Table α n) (i : Fin n) (f : α → α) : Table α n := t.set i (f (t.get i))

end Table

end Sys2Proof.Machine
end

