-- ==== Sys2Proof/Machine/State.lean ====
section
/-! DEFINITION. Everything the part holds, as plain data, and its values at reset. -/

namespace Sys2Proof.Machine

/-- A timer: the tick at which it is planned to expire, or stopped. The time remaining is that tick less `ticks` (log 5). -/
abbrev Timer := Option Nat

/-! ### Station settings -/

/-- The six beacon periods (R69), in the order of their codes (11). -/
inductive BeaconPeriod where
  | ms0p5 | ms1 | ms2 | ms4 | ms8 | ms16
  deriving DecidableEq, Repr

/-- The settings of SET STATION (R152) and the station code read from the straps (R1, R63). -/
structure Station where
  code : Fin 16
  fingerprint : Half
  period : BeaconPeriod
  silenceCount : Nat
  deriving DecidableEq, Repr

/-! ### The Uplink State Map -/

/-- The kind of claim that made the last change of state (R1). -/
inductive Origin where
  | fromLocal | fromNotice | fromRoster
  deriving DecidableEq, Repr

/-- One entry of the map (R1). -/
structure MapEntry where
  state : MapState
  epoch : Byte
  origin : Origin
  cause : FactorSet
  mark : Bool
  time : Stamp
  deriving DecidableEq, Repr

/-! ### Condition Detectors -/

/-- The six detector states (R21). -/
inductive DetState where
  | disabled | serving | suspect | dark | recovering | drained
  deriving DecidableEq, Repr

/-- How a detector leaves the restore hold (R22). -/
inductive ClearMode where
  | auto | held
  deriving DecidableEq, Repr

/-- The four qualify times (R22). -/
inductive QualifyTime where
  | us0 | us25 | us100 | us400
  deriving DecidableEq, Repr

/-- A detector's seven configuration fields (R22). -/
structure UplinkConfig where
  enabled : Bool
  mask : FactorSet
  tq : QualifyTime
  hbMin : Nat
  hbMax : Nat
  holdBase : Nat
  clearMode : ClearMode
  deriving DecidableEq, Repr

/-- What is kept while SUSPECT, for the glitch report (R21, R27). -/
structure SuspectRecord where
  entryTime : Stamp
  causeSeen : FactorSet
  deriving DecidableEq, Repr

/-- One Condition Detector with its two level lines (R21, R23). -/
structure Detector where
  /-- the level of LOSi -/
  losLine : Bool
  /-- the level of LCKi -/
  lockLine : Bool
  config : UplinkConfig
  state : DetState
  awaiting : Bool
  /-- the watched factors that are failing; empty where factor states are not kept (log 13) -/
  failing : FactorSet
  /-- the tick of the previous pulse (R24, log 14) -/
  lastPulse : Option Nat
  watchdog : Timer
  qualify : Timer
  suspect : Option SuspectRecord
  hold : Timer
  level : Nat
  stability : Timer
  deriving DecidableEq, Repr

/-! ### Lane Interface -/

/-- The transmitter's states (R48). -/
inductive TxState where
  | idle | arbitrating | sending | closing | aborting
  deriving DecidableEq, Repr

/-- The receiver's states (R54). -/
inductive RxState where
  | off | seeking | ready | receiving | closing | discarding
  deriving DecidableEq, Repr

/-- The three kinds of notice (R47). -/
inductive NoticeKind where
  | alert | update | beacon
  deriving DecidableEq, Repr

/-- A notice's contents as captured (R67, R68): fields 2 to 7 of R46. -/
structure Notice where
  kind : NoticeKind
  sender : Fin 16
  join : Bool
  fingerprint : Half
  records : List Record
  deriving DecidableEq, Repr

/-- The five sticky flags (R59). -/
structure LaneFlags where
  crcError : Bool
  formatError : Bool
  abortSeen : Bool
  fingerprintMismatch : Bool
  txFault : Bool
  deriving DecidableEq, Repr

/-- What the Lane Interface holds (R48, R54, R59, R63). -/
structure Lane where
  tx : TxState
  /-- the notice held; none while ABORTING is the abort that ends with no outcome (R62, log 22) -/
  captured : Option Notice
  /-- the slots read of the last completed notice, until the next capture (R50, log 19) -/
  tally : Option StationSet
  /-- the end of the abort pattern's eighth bit time (R51) -/
  abortEnd : Timer
  rx : RxState
  /-- the mode permitted the own slot at the decision of the notice in CLOSING (R58) -/
  slotPermitted : Bool
  /-- the lane is quiet (R45) -/
  quiet : Bool
  /-- the end of the quiet gap being counted (R45, log 8) -/
  gapEnd : Timer
  /-- the consecutive transmit-fault count (R52, R53) -/
  faults : Nat
  flags : LaneFlags
  deriving DecidableEq, Repr

/-! ### Announcement Unit -/

/-- The announce entry's states (R64). -/
inductive AnnounceState where
  | clean | pending | outstanding
  deriving DecidableEq, Repr

/-- One announce entry (R64). -/
structure AnnounceEntry where
  state : AnnounceState
  sends : Nat
  sentEpoch : Byte
  heardBy : StationSet
  deriving DecidableEq, Repr

/-- What the Announcement Unit holds (R64, R69). -/
structure Announcer where
  entries : Table AnnounceEntry 4
  beaconTimer : Timer
  beaconDue : Bool
  deriving DecidableEq, Repr

/-! ### Roster Unit -/

/-- The five station modes (R82). -/
inductive Mode where
  | offline | joining | active | quiet | isolated
  deriving DecidableEq, Repr

/-- The states of a roster slot (R92). -/
inductive SlotState where
  | self | unknown | joining | present | silent | excluded
  deriving DecidableEq, Repr

/-- One roster slot (R92). -/
structure Slot where
  state : SlotState
  silence : Timer
  misses : Nat
  deaf : Bool
  joinedMe : Bool
  foreign : Option Half
  deriving DecidableEq, Repr

/-- What the Roster Unit holds: the slots and the mode machine (R92, R99). -/
structure Roster where
  slots : Table Slot 16
  mode : Mode
  joinWindow : Timer
  windowElapsed : Bool
  cooldown : Timer
  deriving DecidableEq, Repr

/-! ### Steering Table -/

/-- Whether a group returns to a better tier on its own (R101, R107). -/
inductive RevertMode where
  | revertive | sticky
  deriving DecidableEq, Repr

/-- The three tiers of preference (R101). -/
inductive Tier where
  | t1 | t2 | t3
  deriving DecidableEq, Repr

/-- A group's condition (R103). -/
inductive Condition where
  | unused | full | partly | blackhole
  deriving DecidableEq, Repr

/-- One group record (R101). -/
structure Group where
  configured : Bool
  revert : RevertMode
  tiers : List (List (Fin 64))
  current : Option Tier
  buckets : Table (Option (Fin 64)) 32
  condition : Condition
  deriving DecidableEq, Repr

/-! ### Sweep Engine -/

/-- An evaluation in flight: its group, its reading of the map and its end (R105). -/
structure Evaluation where
  group : Fin 256
  /-- the reading: the members of the group's tiers that were usable, in tier and list order -/
  usable : List (Fin 64)
  due : Nat
  deriving DecidableEq, Repr

/-- The in-sweep slot (R122). -/
inductive Work where
  | idle
  | sweep (uplink : Fin 64) (position : Nat) (visit : Evaluation)
  | resteer (visit : Evaluation)
  deriving DecidableEq, Repr

/-- What the Sweep Engine holds (R122). -/
structure Engine where
  dirty : Table Bool 64
  work : Work
  /-- highest first -/
  ring : List (Fin 64)
  resteers : Table Bool 256
  index : Table (List (Fin 256)) 64
  deriving DecidableEq, Repr

/-! ### Lookup port and invalidation queue -/

/-- A request taken and not yet answered (R137, R138). -/
inductive Request where
  | lookup (group : Fin 256) (hash : Half)
  | take
  deriving DecidableEq, Repr

/-- What the lookup port holds (R138). -/
structure LookupPort where
  /-- the request order, oldest first -/
  requests : List Request
  /-- the answer word last strobed on LKA (R137, log 21) -/
  lka : Option Half
  deriving DecidableEq, Repr

/-- The invalidation queue (R141), oldest id first. -/
structure InvalidationQueue where
  ids : List (Fin 256)
  flushAll : Bool
  deriving DecidableEq, Repr

/-! ### Management port -/

/-- The position of the frame in progress (R148, R149). -/
inductive Frame where
  /-- MCS is high: no frame -/
  | closed
  /-- MCS was low when RST was released, or fell while it was held: the port waits for it to rise and fall again -/
  | waiting
  /-- the command is not yet taken: the whole bytes received, the command byte first, and the bits of the byte coming in -/
  | opening (bytes : List Byte) (bits : List Bool)
  /-- the command is taken: its status byte and reply data, and the falling edges of MCK since, at each of which MDO changes -/
  | taken (reply : List Byte) (falls : Nat)
  deriving DecidableEq, Repr

/-- What the management port holds (R148, R151). -/
structure Port where
  /-- the configuration lock is closed -/
  locked : Bool
  frame : Frame
  deriving DecidableEq, Repr

/-- An edge at the management port's pins (R148): MCS falls, MCK rises with MDI at a level, MCK falls, MCS rises. -/
inductive PortPin where
  | mcsFall
  | mckRise (mdi : Bool)
  | mckFall
  | mcsRise
  deriving DecidableEq, Repr

/-! ### Event Queue -/

/-- How a detector came to SERVING (R40). -/
inductive ReturnWay where
  | holdExpiry | release
  deriving DecidableEq, Repr

/-- The causes of a mode change (R83). -/
inductive ModeCause where
  | host | fault | cooldown | joinDone | reset
  deriving DecidableEq, Repr

/-- The sixteen kinds of event with their details (R164). -/
inductive Detail where
  | uplinkDark (cause : FactorSet) (left : DetState) (level : Nat)
  | uplinkGlitch (causeSeen : FactorSet) (duration : Stamp)
  | uplinkFlap (failing : FactorSet) (level : Nat) (awaiting : Bool)
  | uplinkAwaiting (level : Nat)
  | uplinkServing (level : Nat) (way : ReturnWay)
  | peerUplink (old new : MapState) (epoch : Byte) (cause : FactorSet) (origin : Origin)
  | noticeUnconfirmed (missing : StationSet) (state : MapState) (epoch : Byte)
  | peerDeaf (kind : NoticeKind)
  | peerJoined (left entered : SlotState)
  | peerExcluded (left : SlotState) (foreign : Half)
  | peerSilent (left : SlotState)
  | modeChange (old new : Mode) (cause : ModeCause)
  | groupTier (old new : Tier) (condition : Condition)
  | groupBlackhole (old : Tier)
  | groupRestored (new : Tier) (condition : Condition)
  | invalidationFlush (removed : Nat)
  deriving DecidableEq, Repr

/-- One event record (R163). The subject is an uplink id, a station code or a group id, by kind. -/
structure Event where
  time : Stamp
  subject : Byte
  detail : Detail
  deriving DecidableEq, Repr

/-- The four trigger levels (R168). -/
inductive TriggerLevel where
  | one | four | eight | sixteen
  deriving DecidableEq, Repr

/-- The Event Queue (R163), oldest record first. -/
structure EventQueue where
  records : List Event
  overflow : Bool
  idleTimer : Timer
  idleExpired : Bool
  trigger : TriggerLevel
  idleTimeout : Byte
  deriving DecidableEq, Repr

/-! ### The whole part -/

/-- Everything the part holds, and the queue of commands that wait. -/
structure State where
  /-- the commands waiting, first in, first out -/
  pending : List Instr
  /-- the edges at the management port's pins that wait, first in, first out (the model's own, log 29) -/
  pins : List PortPin
  /-- how many free choices of order have been drawn (the model's own, log 2) -/
  drawn : Nat
  /-- RST is held low (R140, R149) -/
  rstHeld : Bool
  /-- 50 ns bit times since full reset; the time base is computed from it (log 1) -/
  ticks : Nat
  station : Station
  map : Table MapEntry 64
  detectors : Table Detector 4
  lane : Lane
  announcer : Announcer
  roster : Roster
  groups : Table Group 256
  engine : Engine
  lookup : LookupPort
  invalidation : InvalidationQueue
  port : Port
  events : EventQueue
  deriving DecidableEq, Repr

/-- Why a step can stop the part with a fault. The manual describes none: bad notices, transmit faults and refused
commands all leave a next state (R52, R56, R150). -/
inductive Fault
  deriving DecidableEq, Repr

/-- Why a command can have no meaning. -/
inductive Refusal where
  /-- Raised by a refused arm of `exec` alone, for a command that has no meaning yet. Safe: the model stops. -/
  | notModelled (mnemonic : String)
  deriving DecidableEq, Repr

/-! ### Values at full reset -/

/-- An entry at full reset (R19). -/
def MapEntry.reset : MapEntry := ⟨.absent, 0#8, .fromRoster, 0#3, false, 0#32⟩

/-- The defaults of R22. -/
def UplinkConfig.reset : UplinkConfig := ⟨false, FactorSet.los ||| FactorSet.lock, .us100, 10, 1000, 8, .auto⟩

/-- A detector at full reset (R41); its lines keep the levels they have. -/
def Detector.reset (losLine lockLine : Bool) : Detector where
  losLine := losLine
  lockLine := lockLine
  config := .reset
  state := .disabled
  awaiting := false
  failing := 0#3
  lastPulse := none
  watchdog := none
  qualify := none
  suspect := none
  hold := none
  level := 0
  stability := none

/-- The Lane Interface at full reset (R63). -/
def Lane.reset : Lane where
  tx := .idle
  captured := none
  tally := none
  abortEnd := none
  rx := .off
  slotPermitted := false
  quiet := false
  gapEnd := none
  faults := 0
  flags := ⟨false, false, false, false, false⟩

/-- An announce entry at full reset, START and RESTART (R80). -/
def AnnounceEntry.reset : AnnounceEntry := ⟨.clean, 0, 0#8, 0#16⟩

/-- The Announcement Unit at full reset (R80). -/
def Announcer.reset : Announcer := ⟨.fill .reset, none, false⟩

/-- A roster slot at full reset, START and RESTART (R100): SELF at the own code, UNKNOWN at every other. -/
def Slot.reset (own : Bool) : Slot := ⟨if own then .self else .unknown, none, 0, false, false, none⟩

/-- The slots at full reset, START and RESTART of the station with code `code` (R100). -/
def Roster.resetSlots (code : Fin 16) : Table Slot 16 := .tabulate fun k => .reset (k == code)

/-- The Roster Unit at full reset (R100). -/
def Roster.reset (code : Fin 16) : Roster := ⟨resetSlots code, .offline, none, false, none⟩

/-- An unconfigured group (R101, R119). -/
def Group.reset : Group := ⟨false, .revertive, [], none, .fill none, .unused⟩

/-- The priority ring in id order, 0 highest (R126). -/
def Engine.idRing : List (Fin 64) := List.ofFn fun u => u

/-- The Sweep Engine at full reset (R136). -/
def Engine.reset : Engine := ⟨.fill false, .idle, idRing, .fill false, .fill []⟩

/-- The Event Queue at full reset (R170). -/
def EventQueue.reset : EventQueue := ⟨[], false, none, false, .one, 20#8⟩

/-- The part at a full reset that reads the straps `code` and finds the condition lines and MCS at the levels given,
with RST held or not (R19, R41, R63, R80, R100, R119, R136, R147, R149, R151, R170). -/
def State.fullReset (code : Fin 16) (losLine lockLine : Fin 4 → Bool) (mcs held : Bool) (pending : List Instr)
    (pins : List PortPin) (drawn : Nat) : State where
  pending := pending
  pins := pins
  drawn := drawn
  rstHeld := held
  ticks := 0
  station := ⟨code, 0#16, .ms2, 3⟩
  map := .fill .reset
  detectors := .tabulate fun i => .reset (losLine i) (lockLine i)
  lane := .reset
  announcer := .reset
  roster := .reset code
  groups := .fill .reset
  engine := .reset
  lookup := ⟨[], none⟩
  invalidation := ⟨[], false⟩
  port := ⟨false, if mcs then .closed else .waiting⟩
  events := .reset

/-- The part right after a full reset, RST released, no command waiting. The straps read 0, the condition lines are low
and MCS is high: DESIGN CHOICE, the manual gives none of them (log 6). -/
def State.reset : State := .fullReset 0 (fun _ => false) (fun _ => false) true false [] [] 0

end Sys2Proof.Machine
end

