-- ==== Sys2Proof/WellFormed.lean ====
section
/-! DEFINITION. Which commands are well formed: the sender's promise about operands whose shape the types leave open. -/

namespace Sys2Proof

/-- The command codes of the management port (R152 to R162). -/
def commandCodes : List Byte :=
  [1#8, 2#8, 3#8, 4#8, 5#8, 16#8, 17#8, 18#8, 19#8, 20#8, 21#8, 22#8, 23#8, 32#8, 33#8, 34#8, 35#8, 36#8, 37#8]

/-- The tier part of WRITE GROUP's arguments is complete and ends where the port takes the command:
after the last member id, or at a member count out of range (R149, R154). -/
def tiersComplete : Nat → List Byte → Bool
  | 0, rest => rest.isEmpty
  | _ + 1, [] => false
  | k + 1, c :: rest =>
    if c == 0#8 || 8 < c.toNat then rest.isEmpty
    else decide (c.toNat ≤ rest.length) && tiersComplete k (rest.drop c.toNat)

/-- WRITE GROUP's argument bytes are exactly those the open port reads before it takes the command (R154). -/
def writeGroupComplete : List Byte → Bool
  | _ :: revert :: rest =>
    if 1 < revert.toNat then rest.isEmpty
    else match rest with
      | [] => false
      | tiers :: rest =>
        if tiers == 0#8 || 3 < tiers.toNat then rest.isEmpty else tiersComplete tiers.toNat rest
  | _ => false

/-- The record held in a place of `RxNotice` that the record count does not reach. -/
def Record.unused : Record := ⟨0, .inService, 0#8, 0#3⟩

/-- The places past the record count hold the unused record, so that one received notice is one term. -/
def RxNotice.tidy (n : RxNotice) : Bool :=
  ([n.r0, n.r1, n.r2, n.r3].drop (n.count.toNat + 1)).all (· == Record.unused)

/-- The command is well formed. Every operand not checked here is well formed at each value of its type. -/
def Instr.wellFormed : Instr → Bool
  | .unknownCommand code => !commandCodes.contains code
  | .writeGroup args => writeGroupComplete args
  | .noticeDecision n => n.tidy
  | .fullReset _ | .rstRelease | .frameDiscard | .setStation _ _ _ | .setUplink _ | .clearGroup _ | .start
  | .drain _ | .undrain _ | .release _ | .resteer _ | .leave | .rejoin | .restart | .setEventReporting _ _
  | .readStatus | .readEvents _ | .readMap _ | .readRoster | .readGroup _ | .probe _ _
  | .lookupRequest _ | .takeRequest | .lookupService | .takeService
  | .losChange _ _ | .lockChange _ _ | .heartbeatPulse _ | .heartbeatWatchdogExpiry _ | .qualifyTimerExpiry _
  | .restoreHoldExpiry _ | .stabilityTimerExpiry _ | .quietGapEnd | .noticeStartOffer | .arbitrationLost
  | .txMismatch | .abortPatternEnd | .noticeCompleted _ | .receiveAbort | .receiveTruncation | .badStartMark
  | .silenceTimerExpiry _ | .beaconTimerExpiry | .joinWindowExpiry | .cooldownExpiry | .evaluationCommit
  | .idleTimerExpiry | .laneDominantLevel | .arbitrationWon | .receivedNoticeEnd => true

end Sys2Proof
end

