-- ==== Sys2Proof/Machine/Operands.lean ====
section
/-! DEFINITION. How operands are read: argument bytes, WRITE GROUP's frame, request words, a received notice and its CRC. -/

namespace Sys2Proof.Machine

/-! ### Ids -/

/-- The uplink id 4s + i of local index `i` at station `s` (R1, R6). -/
def uplinkId (s : Fin 16) (i : Fin 4) : Fin 64 := ⟨4 * s.val + i.val, by omega⟩

/-- The station that owns an uplink: the id divided by four with the remainder dropped (R1). -/
def ownerOf (u : Fin 64) : Fin 16 := ⟨u.val / 4, by omega⟩

/-- The local index an uplink has at its owner (R1). -/
def localIndex (u : Fin 64) : Fin 4 := ⟨u.val % 4, by omega⟩

/-- An id as a byte. -/
def idByte {n : Nat} (i : Fin n) : Byte := BitVec.ofNat 8 i.val

/-! ### Encoded values (11, Management port bytes) -/

/-- The byte is below 4: a local index (R156). -/
def localIndexArg (b : Byte) : Option (Fin 4) := if h : b.toNat < 4 then some ⟨b.toNat, h⟩ else none

/-- The byte is below 64: an uplink id (R154, R161). -/
def uplinkArg (b : Byte) : Option (Fin 64) := if h : b.toNat < 64 then some ⟨b.toNat, h⟩ else none

/-- Every byte names a group (R117, R162). -/
def groupArg (b : Byte) : Fin 256 := b.toFin

/-- The beacon period a code names (R152). -/
def beaconPeriodArg (b : Byte) : Option BeaconPeriod :=
  match b.toNat with
  | 0 => some .ms0p5
  | 1 => some .ms1
  | 2 => some .ms2
  | 3 => some .ms4
  | 4 => some .ms8
  | 5 => some .ms16
  | _ => none

/-- The length of a beacon period in µs (R69). -/
def BeaconPeriod.us : BeaconPeriod → Nat
  | .ms0p5 => 500
  | .ms1 => 1000
  | .ms2 => 2000
  | .ms4 => 4000
  | .ms8 => 8000
  | .ms16 => 16000

/-- The silence count, 2 to 8 (R152). -/
def silenceCountArg (b : Byte) : Option Nat := if 2 ≤ b.toNat ∧ b.toNat ≤ 8 then some b.toNat else none

/-- A two-valued field: 0 or 1 (R173). -/
def bitArg (b : Byte) : Option Bool :=
  match b.toNat with
  | 0 => some false
  | 1 => some true
  | _ => none

/-- A factor mask: none of bits 7 to 3 set (R153, R173). -/
def maskArg (b : Byte) : Option FactorSet := if b.toNat < 8 then some (b.extractLsb' 0 3) else none

/-- The qualify time a code names (R22, R173). -/
def qualifyArg (b : Byte) : Option QualifyTime :=
  match b.toNat with
  | 0 => some .us0
  | 1 => some .us25
  | 2 => some .us100
  | 3 => some .us400
  | _ => none

/-- The length of a qualify time in µs (R22). -/
def QualifyTime.us : QualifyTime → Nat
  | .us0 => 0
  | .us25 => 25
  | .us100 => 100
  | .us400 => 400

/-- The clear mode a code names (R22, R173). -/
def clearModeArg (b : Byte) : Option ClearMode := (bitArg b).map fun held => if held then .held else .auto

/-- The revert mode a code names (R154, R173). -/
def revertArg (b : Byte) : Option RevertMode := (bitArg b).map fun sticky => if sticky then .sticky else .revertive

/-- The trigger level a byte names (R158). -/
def triggerArg (b : Byte) : Option TriggerLevel :=
  match b.toNat with
  | 1 => some .one
  | 4 => some .four
  | 8 => some .eight
  | 16 => some .sixteen
  | _ => none

/-- A trigger level as a count (R168). -/
def TriggerLevel.count : TriggerLevel → Nat
  | .one => 1
  | .four => 4
  | .eight => 8
  | .sixteen => 16

/-- SET UPLINK's arguments judged by R22 and R153: the detector named and its seven new fields, or none. -/
def uplinkConfigArg (a : UplinkArgs) : Option (Fin 4 × UplinkConfig) := do
  let i ← localIndexArg a.index
  let enabled ← bitArg a.enabled
  let mask ← maskArg a.mask
  let tq ← qualifyArg a.tq
  let mode ← clearModeArg a.clearMode
  let lo := a.hbMin.toNat
  let hi := a.hbMax.toNat
  let n := a.n.toNat
  if 1 ≤ lo ∧ lo ≤ 4095 ∧ 1 ≤ hi ∧ hi ≤ 4095 ∧ lo ≤ hi ∧ 1 ≤ n ∧ n ≤ 32 then
    some (i, ⟨enabled, mask, tq, lo, hi, n, mode⟩)
  else none

/-! ### WRITE GROUP's frame (R154) -/

/-- What the port makes of WRITE GROUP's argument bytes as they arrive, with the lock open. -/
inductive GroupFrame where
  /-- the last argument byte has not arrived: the command is not taken (R149) -/
  | incomplete
  /-- a revert mode or a count out of range ended the arguments: grounds 2 and 3 -/
  | badArgument
  /-- the last argument byte has arrived -/
  | complete (group : Fin 256) (revert : RevertMode) (tiers : List (List Byte))
  deriving DecidableEq, Repr

/-- What the port makes of the tier part. -/
inductive TierFrame where
  | incomplete
  | badArgument
  | complete (tiers : List (List Byte))
  deriving DecidableEq, Repr

/-- Reads `k` tiers, each a member count of 1 to 8 and that many member ids (R154). -/
def readTiers : Nat → List Byte → TierFrame
  | 0, _ => .complete []
  | _ + 1, [] => .incomplete
  | k + 1, c :: rest =>
    if c.toNat = 0 ∨ 8 < c.toNat then .badArgument
    else if rest.length < c.toNat then .incomplete
    else match readTiers k (rest.drop c.toNat) with
      | .complete tiers => .complete (rest.take c.toNat :: tiers)
      | .badArgument => .badArgument
      | .incomplete => .incomplete

/-- Reads WRITE GROUP's arguments in the order sent (R154). Bytes past the last argument are ignored (R148). -/
def readGroupFrame : List Byte → GroupFrame
  | g :: revert :: rest =>
    match revertArg revert, rest with
    | none, _ => .badArgument
    | some _, [] => .incomplete
    | some r, count :: rest =>
      if count.toNat = 0 ∨ 3 < count.toNat then .badArgument
      else match readTiers count.toNat rest with
        | .complete tiers => .complete (groupArg g) r tiers
        | .badArgument => .badArgument
        | .incomplete => .incomplete
  | _ => .incomplete

/-- The member ids of a tier, each 0 to 63 (ground 4). -/
def memberIds (bytes : List Byte) : Option (List (Fin 64)) := bytes.mapM uplinkArg

/-! ### The lookup port's request word (11, R172) -/

/-- Bits 23 to 16 of a request name the group. -/
def requestGroup (w : BitVec 24) : Fin 256 := (w.extractLsb' 16 8).toFin

/-- Bits 15 to 0 of a request are the flow hash. -/
def requestHash (w : BitVec 24) : Half := w.extractLsb' 0 16

/-- The bucket of a flow: the hash modulo 32, bits 4 to 0 (R115, R172). -/
def bucketOf (hash : Half) : Fin 32 := ⟨hash.toNat % 32, by omega⟩

end Sys2Proof.Machine

namespace Sys2Proof

/-! ### The notice on the lane (11, R46, R171) -/

/-- The two-bit code of a map state on the lane. -/
def MapState.code : MapState → BitVec 2
  | .inService => 0#2
  | .dark => 1#2
  | .drained => 2#2
  | .absent => 3#2

/-- A record's 15 bits in the order sent. -/
def Record.bits (r : Record) : List Bool :=
  msbFirst 2 (BitVec.ofNat 2 r.index.val) ++ msbFirst 2 r.state.code ++ msbFirst 8 r.epoch ++ msbFirst 3 r.cause

/-- Fields 2 to 7 in the order sent. -/
def noticeBits (kind : BitVec 2) (sender : Fin 16) (join : Bool) (count : BitVec 2) (fingerprint : Half)
    (records : List Record) : List Bool :=
  msbFirst 2 kind ++ msbFirst 4 (BitVec.ofNat 4 sender.val) ++ [join] ++ msbFirst 2 count ++ msbFirst 16 fingerprint ++
    records.flatMap Record.bits

/-- One bit through the CRC register (R171). -/
def crcStep (register : Half) (bit : Bool) : Half :=
  if register.msb ^^ bit then (register <<< 1) ^^^ 0x1021#16 else register <<< 1

/-- The CRC of a run of bits (R171). -/
def crcOf (bits : List Bool) : Half := bits.foldl crcStep 0xFFFF#16

namespace RxNotice

/-- The records the receiver finds: `count + 1` of them (R46, R56). -/
def records (n : RxNotice) : List Record := [n.r0, n.r1, n.r2, n.r3].take (n.count.toNat + 1)

/-- The CRC the receiver computes over fields 2 to 7 as received (R171). -/
def crcComputed (n : RxNotice) : Half :=
  crcOf (noticeBits n.kind n.sender n.join n.count n.fingerprint n.records)

/-- No two records carry the same local index (R56, check 3). -/
def distinctIndexes (n : RxNotice) : Bool := decide ((n.records.map Record.index).Nodup)

end RxNotice

end Sys2Proof

namespace Sys2Proof.Machine

/-- The two-bit code of a notice kind. -/
def NoticeKind.code : NoticeKind → BitVec 2
  | .alert => 0#2
  | .update => 1#2
  | .beacon => 2#2

/-- The outcome of a receiver's checks, in their order (R56). -/
inductive Judgement where
  | crcError
  | formatError
  | foreign
  | accepted
  deriving DecidableEq, Repr

/-- The checks of R56 by a station with fingerprint `own`: the first that fails decides. -/
def judge (own : Half) (n : RxNotice) : Judgement :=
  if n.crcComputed ≠ n.crc then .crcError
  else if n.kind = 3#2 then .formatError
  else if n.distinctIndexes = false then .formatError
  else if n.pause ≠ 3#2 then .formatError
  else if n.fingerprint ≠ own then .foreign
  else .accepted

/-- The local indexes of the announce entries a notice carries: a BEACON carries none (R67, R68, R70). -/
def Notice.carried (n : Notice) : List (Fin 4) :=
  match n.kind with
  | .beacon => []
  | .alert | .update => n.records.map Record.index

/-- A captured notice as a receiver reads it when every bit arrives as sent (R46, R171). -/
def Notice.wire (n : Notice) : RxNotice :=
  let count := BitVec.ofNat 2 (n.records.length - 1)
  let place (k : Nat) : Record := n.records.getD k Record.unused
  { kind := n.kind.code, sender := n.sender, join := n.join, count := count, fingerprint := n.fingerprint,
    r0 := place 0, r1 := place 1, r2 := place 2, r3 := place 3,
    crc := crcOf (noticeBits n.kind.code n.sender n.join count n.fingerprint n.records), pause := 3#2 }

end Sys2Proof.Machine
end

