-- ==== Sys2Proof/Machine/Flags.lean ====
section
/-! DEFINITION. The sticky lane flags, the marks, and the output lines that follow the state: LKRDY, INV_PEND, IRQ, the
lane drive. -/

namespace Sys2Proof.Machine

/-! ### Lane flags (R59) -/

namespace LaneFlags

/-- All five flags clear. -/
def clear : LaneFlags := ⟨false, false, false, false, false⟩

/-- READ STATUS's flags byte (11): bits 0 to 4 the lane flags, bit 5 overflow, bit 6 lock closed. -/
def byte (f : LaneFlags) (overflow locked : Bool) : Byte :=
  let bit (b : Bool) (k : Nat) : Byte := if b then BitVec.twoPow 8 k else 0#8
  bit f.crcError 0 ||| bit f.formatError 1 ||| bit f.abortSeen 2 ||| bit f.fingerprintMismatch 3 ||| bit f.txFault 4 |||
    bit overflow 5 ||| bit locked 6

end LaneFlags

/-! ### Modes (R82) -/

/-- The modes that drive the lane (R44). -/
def Mode.transmits : Mode → Bool
  | .joining | .active => true
  | .offline | .quiet | .isolated => false

/-! ### Outputs -/

namespace State

/-- The 32-bit time base: microseconds since full reset, wrapping (00 Conventions, R17). -/
def now (s : State) : Stamp := BitVec.ofNat 32 (s.ticks / Config.ticksPerUs)

/-- LKRDY: RST released and fewer than four requests outstanding (R138, R140). -/
def lkrdy (s : State) : Bool := !s.rstHeld && decide (s.lookup.requests.length < Config.requestLimit)

/-- INV_PEND: the queue holds an id or the mark is set; low while RST is held (R146). -/
def invPend (s : State) : Bool := !s.rstHeld && (!s.invalidation.ids.isEmpty || s.invalidation.flushAll)

/-- IRQ is asserted (R169). -/
def irq (s : State) : Bool :=
  !s.rstHeld && (decide (s.events.trigger.count ≤ s.events.records.length) || s.events.idleExpired || s.events.overflow)

/-- The transmitter drives the lane (R44, R48). -/
def drivesLane (s : State) : Bool := decide (s.lane.tx ≠ .idle)

/-- The receiver drives the own tally slot's value when that slot comes: the mode permitted it at the decision and
permits it now (R58), and the receiver is still in CLOSING (log 33). -/
def drivesOwnSlot (s : State) : Bool :=
  decide (s.lane.rx = .closing) && s.lane.slotPermitted && s.roster.mode.transmits

/-- The own code has this uplink as its own (R1). -/
def owns (s : State) (u : Fin 64) : Bool := ownerOf u == s.station.code

/-- The uplink is usable: its entry is IN_SERVICE (R2). -/
def usable (s : State) (u : Fin 64) : Bool := decide ((s.map.get u).state = .inService)

end State

end Sys2Proof.Machine
end

