-- ==== Sys2Proof/Machine/Evaluate.lean ====
section
/-! DEFINITION. One evaluation of one group, as a function of the record and the reading (R104 to R110), and the record's
definition and starting values (R118 to R120). -/

namespace Sys2Proof.Machine

/-- The place of a tier in a group's tier list. -/
def Tier.place : Tier → Nat
  | .t1 => 0
  | .t2 => 1
  | .t3 => 2

namespace Group

/-- The members of a tier in list order; an absent tier has none (R101). -/
def members (g : Group) (t : Tier) : List (Fin 64) := g.tiers.getD t.place []

/-- Every member of every tier, tier by tier (R105). -/
def allMembers (g : Group) : List (Fin 64) := g.tiers.flatten

/-- The reading of a group: its members that `usable` holds of (R105). -/
def reading (g : Group) (usable : Fin 64 → Bool) : List (Fin 64) := g.allMembers.filter usable

/-- Some member of the tier is usable in the reading. -/
def tierUsable (g : Group) (reading : List (Fin 64)) (t : Tier) : Bool := (g.members t).any (reading.contains ·)

/-- Step 1: the lowest-numbered tier with a usable member (R106). -/
def bestTier (g : Group) (reading : List (Fin 64)) : Option Tier := [Tier.t1, .t2, .t3].find? (g.tierUsable reading)

/-- Step 2: the target tier, from the best tier `best` (R107). A resteer takes STICKY as REVERTIVE (R114). -/
def targetTier (g : Group) (reading : List (Fin 64)) (resteer : Bool) (best : Tier) : Tier :=
  match g.current, g.revert with
  | some t, .sticky => if !resteer && g.tierUsable reading t then t else best
  | _, _ => best

/-- The home of bucket `b` in a tier's list (R104); an empty list has none. -/
def home (members : List (Fin 64)) (b : Fin 32) : Option (Fin 64) := members[b.val % members.length]?

/-- Step 3: the buckets before settling: as they are, or every one at its home in the new tier (R108). -/
def placed (g : Group) (target : Tier) : Table (Option (Fin 64)) 32 :=
  if g.current = some target then g.buckets else .tabulate (home (g.members target))

/-- Step 4 for one bucket: what it is settled on, or none where it needs reassignment (R109). -/
def settle (members reading : List (Fin 64)) (home held : Option (Fin 64)) : Option (Fin 64) :=
  match home with
  | some h =>
    if reading.contains h then some h
    else match held with
      | some m => if members.contains m && reading.contains m then some m else none
      | none => none
  | none => none

/-- How many buckets hold the member (R110). -/
def holdings (buckets : Table (Option (Fin 64)) 32) (m : Fin 64) : Nat := buckets.cells.count (some m)

/-- The candidate that holds the fewest buckets, the earliest of them on a tie (R110). -/
def leastHeld (buckets : Table (Option (Fin 64)) 32) : List (Fin 64) → Option (Fin 64)
  | [] => none
  | m :: rest =>
    match leastHeld buckets rest with
    | none => some m
    | some m' => if holdings buckets m ≤ holdings buckets m' then some m else some m'

/-- Step 5 for one bucket: a bucket that needs reassignment goes to the least-held usable member (R110). -/
def reassign (candidates : List (Fin 64)) (buckets : Table (Option (Fin 64)) 32) (b : Fin 32) :
    Table (Option (Fin 64)) 32 :=
  match buckets.get b with
  | some _ => buckets
  | none => buckets.set b (leastHeld buckets candidates)

/-- The bucket numbers in ascending order. -/
def bucketNumbers : List (Fin 32) := List.ofFn fun b => b

/-- Steps 3 to 5: the buckets on the target tier (R108 to R110). -/
def newBuckets (g : Group) (reading : List (Fin 64)) (target : Tier) : Table (Option (Fin 64)) 32 :=
  let members := g.members target
  let before := g.placed target
  let settled : Table (Option (Fin 64)) 32 := .tabulate fun b => settle members reading (home members b) (before.get b)
  bucketNumbers.foldl (reassign (members.filter (reading.contains ·))) settled

/-- The condition committed with a target tier (R103). -/
def newCondition (g : Group) (reading : List (Fin 64)) : Tier → Condition
  | .t1 => if (g.members .t1).all (reading.contains ·) then .full else .partly
  | .t2 | .t3 => .partly

/-- The record as the evaluation commits it (R105 to R111). -/
def evaluate (g : Group) (reading : List (Fin 64)) (resteer : Bool) : Group :=
  match g.bestTier reading with
  | none => { g with current := none, buckets := .fill none, condition := .blackhole }
  | some best =>
    let target := g.targetTier reading resteer best
    { g with current := some target, buckets := g.newBuckets reading target, condition := g.newCondition reading target }

/-- The commit changed some bucket or the current tier (R111). -/
def steeringChanged (old new : Group) : Bool := decide (old.buckets ≠ new.buckets ∨ old.current ≠ new.current)

/-- The group event of a commit, chosen by the current tier before and after it (R112). -/
def commitEvent (old new : Group) : Option Detail :=
  match old.current, new.current with
  | some a, some b => if a = b then none else some (.groupTier a b new.condition)
  | some a, none => some (.groupBlackhole a)
  | none, some b => some (.groupRestored b new.condition)
  | none, none => none

/-- The record WRITE GROUP stores (R118). -/
def defined (revert : RevertMode) (tiers : List (List (Fin 64))) : Group :=
  ⟨true, revert, tiers, none, .fill none, .blackhole⟩

/-- The record after START and RESTART (R120). -/
def started (g : Group) : Group :=
  if g.configured then { g with current := none, buckets := .fill none, condition := .blackhole } else Group.reset

/-- The references a record uses in the member index (R124). -/
def references (g : Group) : Nat := if g.configured then g.allMembers.length else 0

end Group

/-! ### The member index (R124, R125) -/

/-- A group id put in its ascending place; an id already there is not repeated (R124). -/
def insertAscending (g : Fin 256) : List (Fin 256) → List (Fin 256)
  | [] => [g]
  | h :: rest =>
    if g.val < h.val then g :: h :: rest
    else if g = h then h :: rest
    else h :: insertAscending g rest

/-- The index with group `g` taken out of every list and put in the list of each of `members` (R124). -/
def reindex (index : Table (List (Fin 256)) 64) (g : Fin 256) (members : List (Fin 64)) : Table (List (Fin 256)) 64 :=
  .tabulate fun u =>
    let without := (index.get u).filter (· ≠ g)
    if members.contains u then insertAscending g without else without

/-- The references in all (R125). -/
def indexTotal (index : Table (List (Fin 256)) 64) : Nat := (index.cells.map List.length).sum

/-! ### The priority ring (R126) -/

/-- The uplink moves to the lowest place; every other keeps its place relative to the others (R126). -/
def ringBottom (ring : List (Fin 64)) (u : Fin 64) : List (Fin 64) := ring.filter (· ≠ u) ++ [u]

end Sys2Proof.Machine
end

