-- ==== Sys2Proof/Machine/Ops.lean ====
section
/-! DEFINITION. The shared operations: timers, the Event Queue, the Sweep Engine's selection, claims on the map, detector
transitions, mode changes, the end of a won notice, commits and offers. -/

namespace Sys2Proof.Machine

/-! ### Single homes -/

namespace State

/-- The map with the entry of `u` replaced. -/
def setEntry (s : State) (u : Fin 64) (e : MapEntry) : State := { s with map := s.map.set u e }

/-- The detector `i` replaced. -/
def setDetector (s : State) (i : Fin 4) (d : Detector) : State := { s with detectors := s.detectors.set i d }

/-- The announce entry `i` replaced. -/
def setAnnounce (s : State) (i : Fin 4) (a : AnnounceEntry) : State :=
  { s with announcer := { s.announcer with entries := s.announcer.entries.set i a } }

/-- The roster slot `k` replaced. -/
def setSlot (s : State) (k : Fin 16) (x : Slot) : State :=
  { s with roster := { s.roster with slots := s.roster.slots.set k x } }

/-- The group record `g` replaced. -/
def setGroup (s : State) (g : Fin 256) (r : Group) : State := { s with groups := s.groups.set g r }

/-- The station mode replaced, with no event. -/
def setMode (s : State) (m : Mode) : State := { s with roster := { s.roster with mode := m } }

/-- The Sweep Engine replaced. -/
def withEngine (s : State) (e : Engine) : State := { s with engine := e }

/-- The Lane Interface replaced. -/
def withLane (s : State) (l : Lane) : State := { s with lane := l }

/-- The lane flags replaced. -/
def withFlags (s : State) (f : LaneFlags) : State := { s with lane := { s.lane with flags := f } }

/-- The Event Queue replaced. -/
def withEvents (s : State) (q : EventQueue) : State := { s with events := q }

/-- The uplink id of the own uplink `i` (R1). -/
def ownUplink (s : State) (i : Fin 4) : Fin 64 := uplinkId s.station.code i

/-- The own map entry of local index `i`. -/
def ownEntry (s : State) (i : Fin 4) : MapEntry := s.map.get (s.ownUplink i)

/-- A timer started to run `n` ticks from now. -/
def after (s : State) (n : Nat) : Timer := some (s.ticks + n)

end State

/-- A timer has run out at tick `t`. -/
def Timer.due (timer : Timer) (t : Nat) : Bool :=
  match timer with
  | some e => decide (e ≤ t)
  | none => false

/-! ### The Event Queue (R165 to R167) -/

namespace EventQueue

/-- The idle timer as a push that enters, or a pop that leaves records, starts it at tick `t` (R167). -/
def idleStart (q : EventQueue) (t : Nat) : Timer :=
  if q.idleTimeout = 0#8 then none else some (t + q.idleTimeout.toNat * Config.idleUnitTicks)

/-- A push at tick `t`, by the count (R165). -/
def push (q : EventQueue) (t : Nat) (e : Event) : EventQueue :=
  if q.records.length < Config.eventLimit then { q with records := q.records ++ [e], idleTimer := q.idleStart t }
  else { q with overflow := true }

/-- A pop of up to `n` records at tick `t` (R166). -/
def pop (q : EventQueue) (t n : Nat) : EventQueue :=
  if q.records.isEmpty || n == 0 then q
  else
    let rest := q.records.drop n
    { q with records := rest, idleExpired := false, idleTimer := if rest.isEmpty then none else q.idleStart t }

end EventQueue

namespace State

/-- Pushes an event record stamped with the time base (R163, R165). -/
def push (s : State) (subject : Byte) (d : Detail) : State :=
  s.withEvents (s.events.push s.ticks ⟨s.now, subject, d⟩)

/-! ### The Sweep Engine's selection (R105, R128, R130) -/

/-- An evaluation of group `g` that starts now: its reading of the map and its end (R105). -/
def startEvaluation (s : State) (g : Fin 256) : Evaluation :=
  ⟨g, (s.groups.get g).reading s.usable, s.ticks + Config.evaluationTicks⟩

/-- What a selection takes (R128). -/
inductive Choice where
  | uplink (u : Fin 64)
  | group (g : Fin 256)
  deriving DecidableEq, Repr

/-- The highest in the ring of the dirty uplinks that are unusable, else of those that are usable, else the lowest
group of the resteer set (R128). -/
def choose (s : State) : Option Choice :=
  let dirty := s.engine.ring.filter (s.engine.dirty.get ·)
  match dirty.find? (fun u => !s.usable u) with
  | some u => some (.uplink u)
  | none =>
    match dirty.find? (s.usable ·) with
    | some u => some (.uplink u)
    | none => ((List.ofFn fun g : Fin 256 => g).find? (s.engine.resteers.get ·)).map .group

/-- Selection, repeated while the uplink selected has an empty list, whose sweep completes at its selection (R128, R130).
Each repetition takes an uplink out of the dirty set, so 65 are enough. -/
def selectFuel : Nat → State → State
  | 0, s => s
  | fuel + 1, s =>
    match s.engine.work with
    | .idle =>
      match s.choose with
      | none => s
      | some (.uplink u) =>
        let e := { s.engine with dirty := s.engine.dirty.set u false }
        match s.engine.index.get u with
        | [] => selectFuel fuel (s.withEngine { e with ring := ringBottom e.ring u })
        | g :: _ => s.withEngine { e with work := .sweep u 0 (s.startEvaluation g) }
      | some (.group g) =>
        s.withEngine { s.engine with
          resteers := s.engine.resteers.set g false, work := .resteer (s.startEvaluation g) }
    | .sweep _ _ _ | .resteer _ => s

/-- Selection by an idle engine; a busy one goes on (R128). -/
def select (s : State) : State := selectFuel 65 s

/-- The map adds an uplink to the dirty set (R123); an idle engine selects at once (R128). -/
def addDirty (s : State) (u : Fin 64) : State :=
  (s.withEngine { s.engine with dirty := s.engine.dirty.set u true }).select

/-! ### Claims on the map -/

/-- Dirtying: a change between usable and unusable adds the uplink (R13). -/
def dirtyOnChange (s : State) (u : Fin 64) (old new : MapState) : State :=
  if decide (old = .inService) = decide (new = .inService) then s else s.addDirty u

/-- A change of the own uplink `i`'s image (R4, R5, R65): the entry, then the announce entry, then dirtying. -/
def changeOwn (s : State) (i : Fin 4) (new : MapState) (cause : FactorSet) : State :=
  let u := s.ownUplink i
  let old := s.map.get u
  let s1 := s.setEntry u ⟨new, old.epoch + 1#8, .fromLocal, if new = .dark then cause else 0#3, true, s.now⟩
  let s2 := s1.setAnnounce i { s.announcer.entries.get i with state := .pending, sends := 0, heardBy := 0#16 }
  s2.dirtyOnChange u old.state new

/-- A change of state of a peer entry (R12, R13). -/
def changePeer (s : State) (u : Fin 64) (new : MapState) (epoch : Byte) (origin : Origin) (cause : FactorSet) : State :=
  let old := s.map.get u
  let s1 := s.setEntry u ⟨new, epoch, origin, cause, true, s.now⟩
  (s1.push (idByte u) (.peerUplink old.state new epoch cause origin)).dirtyOnChange u old.state new

/-- One record of an accepted peer notice (R9, R10, R11), by unconditional acceptance or by the epoch rules. -/
def applyRecord (unconditional : Bool) (sender : Fin 16) (s : State) (r : Record) : State :=
  let u := uplinkId sender r.index
  let old := s.map.get u
  let distance := (r.epoch - old.epoch).toNat
  if unconditional || (1 ≤ distance && distance ≤ 127) then
    if r.state = old.state then s.setEntry u { old with epoch := r.epoch }
    else s.changePeer u r.state r.epoch .fromNotice (if r.state = .dark then r.cause else 0#3)
  else s

/-- The roster's claim on one entry (R14). -/
def clearEntry (s : State) (u : Fin 64) : State :=
  let old := s.map.get u
  if old.state = .absent then s.setEntry u { old with epoch := 0#8 }
  else s.changePeer u .absent 0#8 .fromRoster 0#3

/-- The roster's claim on a peer's four entries, in index order (R14). -/
def rosterClaim (s : State) (k : Fin 16) : State :=
  [0, 1, 2, 3].foldl (fun t i => t.clearEntry (uplinkId k i)) s

end State

/-! ### Detectors (R3, R27 to R35) -/

/-- The map image of a detector state (R3). -/
def DetState.image : DetState → MapState
  | .serving | .suspect => .inService
  | .dark | .recovering => .dark
  | .drained => .drained
  | .disabled => .absent

/-- The hold base in ticks: 125 ms times n (R30). -/
def UplinkConfig.baseTicks (c : UplinkConfig) : Nat := Config.holdUnitTicks * c.holdBase

/-- The hold time of a level in ticks (R30). -/
def UplinkConfig.holdTicks (c : UplinkConfig) (level : Nat) : Nat := c.baseTicks * 2 ^ level

/-- The stability time in ticks: 16 times the base (R31). -/
def UplinkConfig.stabilityTicks (c : UplinkConfig) : Nat := 16 * c.baseTicks

/-- The level one higher, capped at 6 (R30). -/
def raisedLevel (level : Nat) : Nat := min 6 (level + 1)

/-- The detector watches its lines (R26, R41). -/
def Detector.watches (d : Detector) (f : FactorSet) : Bool := decide (d.state ≠ .disabled) && d.config.mask.has f

namespace State

/-- The event's subject for the own uplink `i`. -/
def ownSubject (s : State) (i : Fin 4) : Byte := idByte (s.ownUplink i)

/-- A detector's transition to `d`: where the image changes, the own entry takes it in the same step (R3, R4). -/
def transition (s : State) (i : Fin 4) (d : Detector) (cause : FactorSet) : State :=
  let old := (s.detectors.get i).state.image
  let s1 := s.setDetector i d
  if d.state.image = old then s1 else s1.changeOwn i d.state.image cause

/-- The move to RECOVERING with a new restore hold (R32). -/
def startHold (s : State) (i : Fin 4) : State :=
  let d := s.detectors.get i
  s.transition i { d with state := .recovering, awaiting := false, hold := s.after (d.config.holdTicks d.level) } 0#3

/-- The entry to DARK from SERVING or SUSPECT (R29, R31, R32). -/
def enterDark (s : State) (i : Fin 4) : State :=
  let d := s.detectors.get i
  let level := if d.stability.isSome then raisedLevel d.level else d.level
  let s1 := s.transition i
    { d with state := .dark, qualify := none, suspect := none, stability := none, level := level } d.failing
  let s2 := s1.push (s.ownSubject i) (.uplinkDark d.failing d.state level)
  if d.failing = 0#3 then s2.startHold i else s2

/-- A flap: a factor failure in RECOVERING (R33, R35). -/
def flap (s : State) (i : Fin 4) : State :=
  let d := s.detectors.get i
  let level := raisedLevel d.level
  let s1 := s.transition i { d with state := .dark, awaiting := false, hold := none, level := level } d.failing
  s1.push (s.ownSubject i) (.uplinkFlap d.failing level d.awaiting)

/-- The entry to SERVING from RECOVERING (R31, R34, R38). -/
def enterServing (s : State) (i : Fin 4) (way : ReturnWay) : State :=
  let d := s.detectors.get i
  let s1 := s.transition i
    { d with state := .serving, awaiting := false, hold := none, stability := s.after d.config.stabilityTicks } 0#3
  s1.push (s.ownSubject i) (.uplinkServing d.level way)

/-- A factor failure: the watched factor `f` has just joined the failing set (R27, R28, R33, R35). -/
def factorFailure (s : State) (i : Fin 4) (f : FactorSet) : State :=
  let d := s.detectors.get i
  match d.state with
  | .serving =>
    if d.config.tq = .us0 then s.enterDark i
    else s.transition i { d with
      state := .suspect
      qualify := s.after (d.config.tq.us * Config.ticksPerUs)
      suspect := some ⟨s.now, d.failing⟩ } 0#3
  | .suspect => s.setDetector i { d with suspect := d.suspect.map fun r => { r with causeSeen := r.causeSeen ||| f } }
  | .recovering => s.flap i
  | .dark | .drained | .disabled => s

/-- The duration of a glitch: the time base now less the entry time, at most one less than Tq, as R28 bounds it (log 31). -/
def glitchDuration (now entry : Stamp) (tq : QualifyTime) : Stamp :=
  BitVec.ofNat 32 (min (now - entry).toNat (tq.us - 1))

/-- All good: the last failing watched factor has just become good (R28, R32). -/
def allGood (s : State) (i : Fin 4) : State :=
  let d := s.detectors.get i
  match d.state with
  | .suspect =>
    let s1 := s.transition i { d with state := .serving, qualify := none, suspect := none } 0#3
    match d.suspect with
    | some r => s1.push (s.ownSubject i) (.uplinkGlitch r.causeSeen (glitchDuration s.now r.entryTime d.config.tq))
    | none => s1
  | .dark => s.startHold i
  | .serving | .recovering | .drained | .disabled => s

/-- A watched factor becomes failing (`bad`) or good: a factor event where it changes (R23). -/
def setFactor (s : State) (i : Fin 4) (f : FactorSet) (bad : Bool) : State :=
  let d := s.detectors.get i
  let failing := d.failing.put f bad
  if failing = d.failing then s
  else
    let s1 := s.setDetector i { d with failing := failing }
    if bad then s1.factorFailure i f
    else if failing = 0#3 then s1.allGood i
    else s1

/-! ### Modes and the join (R83, R85, R86, R89) -/

/-- A change of mode with its MODE_CHANGE (R83). -/
def changeMode (s : State) (new : Mode) (cause : ModeCause) : State :=
  (s.setMode new).push (idByte s.station.code) (.modeChange s.roster.mode new cause)

/-- The silence time, which is also the join window (R85, R93). -/
def silenceTicks (s : State) : Nat := s.station.silenceCount * (s.station.period.us * Config.ticksPerUs)

/-- The end of a quiet gap counted from now, or from the last dominant level where that ends it later (R45, R51, R54). -/
def gapFromNow (s : State) : Timer := some (max (s.lane.gapEnd.getD 0) (s.ticks + Config.quietTicks))

/-- The beacon period in ticks (R69). -/
def beaconTicks (s : State) : Nat := s.station.period.us * Config.ticksPerUs

/-- The common effects of entry to JOINING (R53, R69, R85). -/
def enterJoining (s : State) : State :=
  { s with
    roster := { s.roster with
      slots := .tabulate fun k => { s.roster.slots.get k with joinedMe := false }
      joinWindow := s.after s.silenceTicks
      windowElapsed := false
      cooldown := none }
    lane := { s.lane with faults := 0 }
    announcer := { s.announcer with beaconTimer := none, beaconDue := true } }

/-- A peer slot that takes part in the expected hearers, the bookkeeping and the join guard (R71, R73, R86). -/
def hearable (s : State) (k : Fin 16) : Bool :=
  match (s.roster.slots.get k).state with
  | .joining | .present => true
  | .self | .unknown | .silent | .excluded => false

/-- The station codes 0 to 15 in ascending order. -/
def codes : List (Fin 16) := List.ofFn fun k => k

/-- The join guard (R86). -/
def joinGuard (s : State) : Bool :=
  codes.all fun k => !s.hearable k || (s.roster.slots.get k).deaf || (s.roster.slots.get k).joinedMe

/-- A test of the join guard: the move to ACTIVE where it is made and holds (R86). -/
def testGuard (s : State) : State :=
  if s.roster.mode = .joining ∧ s.roster.windowElapsed = true ∧ s.joinGuard = true then
    let s1 := s.changeMode .active .joinDone
    { s1 with roster := { s1.roster with joinWindow := none } }
  else s

/-- Every announce entry CLEAN and the beacon stopped: the entry to QUIET or ISOLATED (R76). -/
def silenceAnnouncer (s : State) : State :=
  { s with announcer :=
    { entries := .tabulate fun i => { s.announcer.entries.get i with state := .clean, sends := 0, heardBy := 0#16 }
      beaconTimer := none
      beaconDue := false } }

/-- The eighth fault's move to ISOLATED (R89). An own tally slot that was permitted is not driven any more (R58). -/
def isolate (s : State) : State :=
  let s1 := s.silenceAnnouncer.changeMode .isolated .fault
  { s1 with
    roster := { s1.roster with joinWindow := none, cooldown := s.after Config.cooldownTicks }
    lane := { s1.lane with slotPermitted := false } }

/-! ### The end of a won notice (R52, R53, R70 to R73, R79) -/

/-- The hears-me bookkeeping of one peer (R71). -/
def bookkeep (n : Notice) (tally : StationSet) (s : State) (k : Fin 16) : State :=
  let x := s.roster.slots.get k
  if s.hearable k then
    if tally.has k then s.setSlot k { x with misses := 0, deaf := false, joinedMe := x.joinedMe || n.join }
    else if x.misses + 1 = Config.faultLimit then
      (s.setSlot k { x with misses := Config.faultLimit, deaf := true }).push (idByte k) (.peerDeaf n.kind)
    else s.setSlot k { x with misses := min Config.faultLimit (x.misses + 1) }
  else s

/-- The expected hearers (R73). -/
def expectedHearers (s : State) : StationSet :=
  codes.foldl (fun set k => if s.hearable k && !(s.roster.slots.get k).deaf then set ||| .single k else set)
    (.single s.station.code)

/-- The settlement of one carried entry (R72, R73, R79). -/
def settleEntry (tally : StationSet) (s : State) (i : Fin 4) : State :=
  let a := s.announcer.entries.get i
  let own := s.ownEntry i
  if own.epoch = a.sentEpoch then
    let sends := a.sends + 1
    let heard := a.heardBy ||| tally
    let missing := s.expectedHearers &&& ~~~heard
    if missing = 0#16 then s.setAnnounce i { a with state := .clean, sends := 0, heardBy := 0#16 }
    else if Config.sendLimit ≤ sends then
      (s.setAnnounce i { a with state := .clean, sends := 0, heardBy := 0#16 }).push (s.ownSubject i)
        (.noticeUnconfirmed missing own.state own.epoch)
    else s.setAnnounce i { a with state := .outstanding, sends := sends, heardBy := heard }
  else s

/-- The Announcement Unit takes the end of a won notice (R70): `tally` is none where it was aborted. -/
def endOfWonNotice (s : State) (n : Notice) (tally : Option StationSet) : State :=
  let s1 := match tally with
    | some t => codes.foldl (bookkeep n t) s
    | none => s
  let s2 := n.carried.foldl (settleEntry (tally.getD 0#16)) s1
  { s2 with announcer := { s2.announcer with beaconTimer := s.after s.beaconTicks, beaconDue := false } }

/-- A won notice ends (R52, R53, R86): the count and the flag, the Announcement Unit, then the eighth fault or the
guard's test. -/
def wonNoticeEnds (s : State) (n : Notice) (tally : Option StationSet) : State :=
  let completed := match tally with
    | some t => t.has s.station.code
    | none => false
  let faults := if completed then 0 else min Config.faultLimit (s.lane.faults + 1)
  let s1 := s.withLane { s.lane with
    tx := .idle
    captured := none
    tally := tally
    abortEnd := none
    gapEnd := s.gapFromNow
    faults := faults
    flags := { s.lane.flags with txFault := s.lane.flags.txFault || !completed } }
  let s2 := s1.endOfWonNotice n tally
  if completed = false ∧ faults = Config.faultLimit ∧ s.roster.mode.transmits = true then s2.isolate else s2.testGuard

/-! ### Notices taken from the lane (R57, R93 to R95) -/

/-- The slot's peer is not at present heard: its records are then taken unconditionally (R7), and its first accepted
notice pushes PEER_JOINED (R94). -/
def unheard (x : Slot) : Bool :=
  match x.state with
  | .unknown | .silent | .excluded => true
  | .self | .joining | .present => false

/-- The slot after an accepted notice (R93, R94). DESIGN CHOICE: the silence timer that starts again leaves no expiry of the part's
own to take, as R97 has it; R15 lets a silence that was already due follow the notice, which only a SILENCE_TIMER_EXPIRY in the
queue does (log 32). -/
def heardSlot (s : State) (x : Slot) (join : Bool) : Slot :=
  { x with state := if join then .joining else .present, silence := s.after s.silenceTicks, foreign := none }

/-- An accepted peer notice: the roster takes it, then its records reach the map in their order (R6, R7, R94). DESIGN CHOICE: a
slot that moves from PRESENT to JOINING pushes no PEER_JOINED, as R94's table has it; the peer restart told in chapter 12 pushes
one (log 34). -/
def takeNotice (s : State) (n : RxNotice) : State :=
  let x := s.roster.slots.get n.sender
  let y := s.heardSlot x n.join
  let s1 := s.setSlot n.sender y
  let s2 := if unheard x then s1.push (idByte n.sender) (.peerJoined x.state y.state) else s1
  n.records.foldl (applyRecord (n.join || unheard x) n.sender) s2

/-- A slot that is lost, to SILENT or EXCLUDED: its hears-me fields cleared (R95, R96). -/
def lostSlot (x : Slot) (state : SlotState) (silence : Timer) (foreign : Option Half) : Slot :=
  { x with state := state, silence := silence, misses := 0, deaf := false, joinedMe := false, foreign := foreign }

/-- A good peer notice with a foreign fingerprint (R86, R93, R95). DESIGN CHOICE: the join guard is tested after the claim, so a
MODE_CHANGE of JOIN_DONE follows the PEER_UPLINK records, as R96 has it for silence; R86, R95 and R164 give no order (log 30). -/
def takeForeign (s : State) (n : RxNotice) : State :=
  let x := s.roster.slots.get n.sender
  let timer := s.after s.silenceTicks
  if x.state = .excluded then s.setSlot n.sender { x with silence := timer, foreign := some n.fingerprint }
  else
    let s1 := s.setSlot n.sender (lostSlot x .excluded timer (some n.fingerprint))
    let s2 := s1.push (idByte n.sender) (.peerExcluded x.state n.fingerprint)
    (s2.rosterClaim n.sender).testGuard

/-- A peer falls silent (R86, R96). -/
def fallSilent (s : State) (k : Fin 16) : State :=
  let x := s.roster.slots.get k
  let s1 := s.setSlot k (lostSlot x .silent none none)
  let s2 := s1.push (idByte k) (.peerSilent x.state)
  (s2.rosterClaim k).testGuard

/-! ### Building a notice (R66 to R68) -/

/-- The local indexes 0 to 3 in ascending order. -/
def indexes : List (Fin 4) := [0, 1, 2, 3]

/-- The indexes whose announce entries are PENDING or OUTSTANDING, ascending. -/
def waiting (s : State) : List (Fin 4) := indexes.filter fun i => decide ((s.announcer.entries.get i).state ≠ .clean)

/-- The record of the own uplink `i` as captured (R67). -/
def ownRecord (s : State) (i : Fin 4) : Record :=
  let e := s.ownEntry i
  ⟨i, e.state, e.epoch, if e.state = .dark then e.cause else 0#3⟩

/-- The Announcement Unit has something to send (R66). -/
def hasSomething (s : State) : Bool := !s.waiting.isEmpty || s.announcer.beaconDue

/-- The notice captured at an offer (R67, R68, R77). -/
def capture (s : State) : Notice :=
  let w := s.waiting
  let records := (if w.isEmpty then indexes else w).map s.ownRecord
  { kind := if w.isEmpty then .beacon else if records.all (fun r => decide (r.state = .inService)) then .update else .alert
    sender := s.station.code
    join := decide (s.roster.mode = .joining)
    fingerprint := s.station.fingerprint
    records := records }

/-- The sent epochs written at a capture (R67); a BEACON writes none (R68). -/
def writeSentEpochs (s : State) : State :=
  s.waiting.foldl (fun t i => t.setAnnounce i { t.announcer.entries.get i with sentEpoch := (s.ownEntry i).epoch }) s

/-- The five conditions of an offer (R48). -/
def offersStart (s : State) : Bool :=
  decide (s.lane.tx = .idle) && s.roster.mode.transmits && decide (s.lane.rx = .ready) && s.lane.quiet && s.hasSomething

/-- A quiet gap can end: the transmitter drives nothing and the receiver follows no notice (R44, R45). -/
def gapCanEnd (s : State) : Bool :=
  decide (s.lane.tx = .idle) && !decide (s.lane.rx = .receiving) && !decide (s.lane.rx = .closing)

/-- A dominant level on the lane: quiet ends, the count of twelve starts over after this bit time, and a READY receiver
goes to RECEIVING (R45, R54). -/
def seeDominant (s : State) : State :=
  s.withLane { s.lane with
    quiet := false
    gapEnd := s.after (1 + Config.quietTicks)
    rx := if s.lane.rx = .ready then .receiving else s.lane.rx }

/-- The transmitter releases the lane and drops its notice with no outcome (R49, R61, R62). -/
def releaseLane (s : State) : State :=
  s.withLane { s.lane with tx := .idle, captured := none, tally := none, abortEnd := none, gapEnd := s.gapFromNow }

/-- The receiver drops the notice it follows (R54, R55, R56). -/
def discard (s : State) : State :=
  s.withLane { s.lane with rx := .discarding, slotPermitted := false, gapEnd := s.gapFromNow }

/-- The receiver leaves CLOSING for SEEKING (R54, R55). DESIGN CHOICE: where it does so before the own tally slot, that slot is not
driven, even while the own transmitter is still in CLOSING (R50, R55; log 33). -/
def noticeOver (s : State) : State :=
  s.withLane { s.lane with rx := .seeking, slotPermitted := false, gapEnd := s.gapFromNow }

/-! ### Commits and offers (R111, R112, R130, R133, R142) -/

/-- The offer of a group id to the invalidation queue (R142). -/
def offer (s : State) (g : Fin 256) : State :=
  let q := s.invalidation
  if q.flushAll || q.ids.contains g then s
  else if q.ids.length < Config.invalidationLimit then { s with invalidation := { q with ids := q.ids ++ [g] } }
  else ({ s with invalidation := ⟨[], true⟩ } : State).push (idByte g) (.invalidationFlush q.ids.length)

/-- The commit of an evaluation: the record, the group event, the offer (R111, R112). -/
def commit (s : State) (ev : Evaluation) (resteer : Bool) : State :=
  let old := s.groups.get ev.group
  let new := old.evaluate ev.usable resteer
  let s1 := s.setGroup ev.group new
  if Group.steeringChanged old new then
    let s2 := match Group.commitEvent old new with
      | some d => s1.push (idByte ev.group) d
      | none => s1
    s2.offer ev.group
  else s1

/-- The engine after a commit: the next visit starts, or the sweep or the resteer completes and selection follows
(R126, R130, R133). -/
def advance (s : State) : State :=
  match s.engine.work with
  | .idle => s
  | .sweep u position _ =>
    match (s.engine.index.get u)[position + 1]? with
    | some g => s.withEngine { s.engine with work := .sweep u (position + 1) (s.startEvaluation g) }
    | none => (s.withEngine { s.engine with work := .idle, ring := ringBottom s.engine.ring u }).select
  | .resteer _ => (s.withEngine { s.engine with work := .idle }).select

/-! ### Starting values (R20, R42, R80, R84, R90, R100, R120, R136, R147) -/

/-- A detector's values at START and RESTART, before R43 (R42). -/
def startedDetector (s : State) (d : Detector) : Detector :=
  let c := d.config
  let base := { Detector.reset d.losLine d.lockLine with config := c }
  if c.enabled then
    { base with
      state := .dark
      failing := c.mask &&&
        ((if d.losLine then FactorSet.los else 0#3) ||| (if d.lockLine then 0#3 else FactorSet.lock) ||| FactorSet.hb)
      watchdog := if c.mask.has FactorSet.hb then s.after (c.hbMax * Config.heartbeatUnitTicks) else none }
  else base

/-- The move of R43: an enabled detector whose watched factors are all good goes at once to RECOVERING. -/
def settledDetector (s : State) (d : Detector) : Detector :=
  if d.state = .dark ∧ d.failing = 0#3 then
    { d with state := .recovering, hold := s.after (d.config.holdTicks d.level) }
  else d

/-- A map entry at START and RESTART (R20). -/
def startedEntry (s : State) (u : Fin 64) : MapEntry :=
  if s.owns u then
    ⟨if (s.detectors.get (localIndex u)).config.enabled then .dark else .absent, 0#8, .fromLocal, 0#3, false, s.now⟩
  else ⟨.absent, 0#8, .fromRoster, 0#3, false, s.now⟩

/-- Every block but the Lane Interface and the Event Queue takes its values of START and RESTART, which agree. -/
def startingValues (s : State) : State :=
  { s with
    map := .tabulate s.startedEntry
    detectors := .tabulate fun i => s.settledDetector (s.startedDetector (s.detectors.get i))
    announcer := { entries := .fill .reset, beaconTimer := none, beaconDue := true }
    roster := { s.roster with
      slots := Roster.resetSlots s.station.code, joinWindow := none, windowElapsed := false, cooldown := none }
    groups := .tabulate fun g => (s.groups.get g).started
    engine := { Engine.reset with index := s.engine.index }
    invalidation := ⟨[], true⟩ }

/-- The receiver starts to seek a quiet gap (R54, R62). -/
def startSeeking (s : State) : State :=
  s.withLane { s.lane with rx := .seeking, slotPermitted := false, gapEnd := s.gapFromNow }

end State

end Sys2Proof.Machine
end

