-- ==== Sys2Proof/Machine/DetectorSteps.lean ====
section
/-! DEFINITION. The condition lines and the detectors' timers (02, R23 to R35). -/

namespace Sys2Proof.Machine

/-- LOS_CHANGE (R23): the LOS factor is failing while the line is high. -/
def execLosChange (i : Fin 4) (high : Bool) (s : State) : Host.Outcome State Fault Refusal :=
  let d := s.detectors.get i
  let s1 := s.setDetector i { d with losLine := high }
  .next (if d.watches FactorSet.los then s1.setFactor i FactorSet.los high else s1)

/-- LOCK_CHANGE (R23): the LOCK factor is failing while the line is low. -/
def execLockChange (i : Fin 4) (high : Bool) (s : State) : Host.Outcome State Fault Refusal :=
  let d := s.detectors.get i
  let s1 := s.setDetector i { d with lockLine := high }
  .next (if d.watches FactorSet.lock then s1.setFactor i FactorSet.lock (!high) else s1)

/-- What a pulse at tick `t` makes of the HB factor: failing, good, or none where it keeps its state (R24). -/
def Detector.pulseVerdict (d : Detector) (t : Nat) : Option Bool :=
  d.lastPulse.map fun last =>
    let interval := t - last
    !(decide (d.config.hbMin * Config.heartbeatUnitTicks ≤ interval) &&
      decide (interval ≤ d.config.hbMax * Config.heartbeatUnitTicks))

/-- HEARTBEAT_PULSE (R24, R26): the interval is judged, then the watchdog starts again at HBmax. -/
def execHeartbeatPulse (i : Fin 4) (s : State) : Host.Outcome State Fault Refusal :=
  let d := s.detectors.get i
  .next <|
    if d.watches FactorSet.hb then
      let s1 := s.setDetector i { d with
        lastPulse := some s.ticks
        watchdog := s.after (d.config.hbMax * Config.heartbeatUnitTicks) }
      match d.pulseVerdict s.ticks with
      | some bad => s1.setFactor i FactorSet.hb bad
      | none => s1
    else s

/-- HEARTBEAT_WATCHDOG_EXPIRY (R25). -/
def execHeartbeatWatchdogExpiry (i : Fin 4) (s : State) : Host.Outcome State Fault Refusal :=
  let d := s.detectors.get i
  .next <|
    if d.watchdog.isSome then (s.setDetector i { d with watchdog := none }).setFactor i FactorSet.hb true else s

/-- QUALIFY_TIMER_EXPIRY (R29). -/
def execQualifyTimerExpiry (i : Fin 4) (s : State) : Host.Outcome State Fault Refusal :=
  let d := s.detectors.get i
  .next (if d.state = .suspect ∧ d.qualify.isSome then s.enterDark i else s)

/-- RESTORE_HOLD_EXPIRY (R34). -/
def execRestoreHoldExpiry (i : Fin 4) (s : State) : Host.Outcome State Fault Refusal :=
  let d := s.detectors.get i
  .next <|
    if d.state = .recovering ∧ d.awaiting = false ∧ d.hold.isSome then
      match d.config.clearMode with
      | .auto => s.enterServing i .holdExpiry
      | .held => (s.setDetector i { d with awaiting := true, hold := none }).push (s.ownSubject i) (.uplinkAwaiting d.level)
    else s

/-- STABILITY_TIMER_EXPIRY (R31). -/
def execStabilityTimerExpiry (i : Fin 4) (s : State) : Host.Outcome State Fault Refusal :=
  let d := s.detectors.get i
  .next (if d.stability.isSome then s.setDetector i { d with level := 0, stability := none } else s)

end Sys2Proof.Machine
end

