-- ==== Sys2Proof/Machine/LaneSteps.lean ====
section
/-! DEFINITION. The failover lane's events: quiet, offers, arbitration, faults, reception (03, R44 to R63). -/

namespace Sys2Proof.Machine

/-- QUIET_GAP_END (R45, R54): the lane is quiet, and a seeking or discarding receiver is READY. No gap ends where each bit
time has a dominant lead: while the transmitter drives, or the receiver follows a notice (log 4). -/
def execQuietGapEnd (s : State) : Host.Outcome State Fault Refusal :=
  .next <|
    if s.rstHeld || !s.gapCanEnd then s
    else s.withLane { s.lane with
      quiet := true
      gapEnd := none
      rx := match s.lane.rx with
        | .seeking | .discarding => .ready
        | .off => .off
        | .ready => .ready
        | .receiving => .receiving
        | .closing => .closing }

/-- LANE_DOMINANT_LEVEL (R45, R54). -/
def execLaneDominantLevel (s : State) : Host.Outcome State Fault Refusal := .next (if s.rstHeld then s else s.seeDominant)

/-- NOTICE_START_OFFER (R48, R66 to R68): the notice captured whole, the start mark's lead on the lane (log 9). -/
def execNoticeStartOffer (s : State) : Host.Outcome State Fault Refusal :=
  .next <|
    if s.offersStart then
      let s1 := s.writeSentEpochs.seeDominant
      s1.withLane { s1.lane with tx := .arbitrating, captured := some s.capture, tally := none }
    else s

/-- ARBITRATION_LOST (R49, R75). -/
def execArbitrationLost (s : State) : Host.Outcome State Fault Refusal :=
  .next (if s.lane.tx = .arbitrating then s.withLane { s.lane with tx := .idle, captured := none } else s)

/-- ARBITRATION_WON (R49). -/
def execArbitrationWon (s : State) : Host.Outcome State Fault Refusal :=
  .next (if s.lane.tx = .arbitrating then s.withLane { s.lane with tx := .sending } else s)

/-- TX_MISMATCH (R49, R50, R51). -/
def execTxMismatch (s : State) : Host.Outcome State Fault Refusal :=
  .next <|
    match s.lane.tx with
    | .arbitrating | .sending => s.withLane { s.lane with tx := .aborting, abortEnd := s.after Config.abortTicks }
    | .idle | .closing | .aborting => s

/-- ABORT_PATTERN_END (R51, R52): FAULTED with an empty tally set, or no outcome after RESTART (R62). -/
def execAbortPatternEnd (s : State) : Host.Outcome State Fault Refusal :=
  .next <|
    if s.lane.tx = .aborting then
      match s.lane.captured with
      | some n => s.wonNoticeEnds n none
      | none => s.releaseLane
    else s

/-- NOTICE_COMPLETED (R50, R52): COMPLETED or FAULTED with the slots as read. -/
def execNoticeCompleted (slots : StationSet) (s : State) : Host.Outcome State Fault Refusal :=
  .next <|
    match s.lane.tx, s.lane.captured with
    | .closing, some n => s.wonNoticeEnds n (some slots)
    | _, _ => s

/-- A flag set by a failed check (R56, R59). -/
def Judgement.flag (j : Judgement) (f : LaneFlags) : LaneFlags :=
  match j with
  | .crcError => { f with crcError := true }
  | .formatError => { f with formatError := true }
  | .foreign => { f with fingerprintMismatch := true }
  | .accepted => f

/-- The receiver's decision (R56, R57, R58). -/
def State.receive (s : State) (n : RxNotice) : State :=
  let j := judge s.station.fingerprint n
  let s1 := s.withFlags (j.flag s.lane.flags)
  match j with
  | .crcError | .formatError => s1.discard
  | .foreign => if n.sender = s.station.code then s1.discard else s1.discard.takeForeign n
  | .accepted =>
    let s2 := s1.withLane { s1.lane with rx := .closing, slotPermitted := s.roster.mode.transmits }
    if n.sender = s.station.code then s2 else s2.takeNotice n

/-- NOTICE_DECISION (R50, R56): a transmitter that has sent its notice without mismatch goes to CLOSING, and the receiver
judges the notice it follows. -/
def execNoticeDecision (n : RxNotice) (s : State) : Host.Outcome State Fault Refusal :=
  let s1 := if s.lane.tx = .sending then s.withLane { s.lane with tx := .closing } else s
  .next (if s1.lane.rx = .receiving then s1.receive n else s1)

/-- RECEIVE_ABORT (R55, R59). In CLOSING it ends the notice with no flag. -/
def execReceiveAbort (s : State) : Host.Outcome State Fault Refusal :=
  .next <|
    match s.lane.rx with
    | .receiving => (s.withFlags { s.lane.flags with abortSeen := true }).discard
    | .closing => s.noticeOver
    | .off | .seeking | .ready | .discarding => s

/-- RECEIVE_TRUNCATION (R55, R59). In CLOSING a missing lead ends the notice with no flag. -/
def execReceiveTruncation (s : State) : Host.Outcome State Fault Refusal :=
  .next <|
    match s.lane.rx with
    | .receiving => (s.withFlags { s.lane.flags with formatError := true }).discard
    | .closing => s.noticeOver
    | .off | .seeking | .ready | .discarding => s

/-- BAD_START_MARK (R54, R59). -/
def execBadStartMark (s : State) : Host.Outcome State Fault Refusal :=
  .next (if s.lane.rx = .receiving then (s.withFlags { s.lane.flags with formatError := true }).discard else s)

/-- RECEIVED_NOTICE_END (R54). -/
def execReceivedNoticeEnd (s : State) : Host.Outcome State Fault Refusal :=
  .next (if s.lane.rx = .closing then s.noticeOver else s)

end Sys2Proof.Machine
end

