-- ==== Sys2Proof/Machine/Replies.lean ====
section
/-! DEFINITION. Status codes, the encodings of replies and the layouts of the management port's replies and LKA's words
(11). -/

namespace Sys2Proof.Machine

/-- The status codes (R150). -/
inductive Status where
  | done | locked | wrongMode | wrongState | badArgument | indexFull | tooEarly | notAwaiting
  deriving DecidableEq, Repr

/-- A status code's byte (11). -/
def Status.byte : Status → Byte
  | .done => 0#8
  | .locked => 1#8
  | .wrongMode => 2#8
  | .wrongState => 3#8
  | .badArgument => 4#8
  | .indexFull => 5#8
  | .tooEarly => 6#8
  | .notAwaiting => 7#8

namespace State

/-- The command is taken and the port moves to REPLY: the status byte, then the reply data (R148, R150). -/
def replied (s : State) (status : Status) (data : List Byte) : State :=
  { s with port := { s.port with frame := .taken (status.byte :: data) 0 } }

/-- A command refused: its code, no data, and nothing changed (R150). -/
def refuse (s : State) (status : Status) : State := s.replied status []

/-- A command carried out with no reply data (R150). -/
def done (s : State) : State := s.replied .done []

end State

/-! ### Encodings (11) -/

/-- A station mode's byte. -/
def Mode.byte : Mode → Byte
  | .offline => 0#8
  | .joining => 1#8
  | .active => 2#8
  | .quiet => 3#8
  | .isolated => 4#8

/-- A mode change cause's byte. -/
def ModeCause.byte : ModeCause → Byte
  | .host => 0#8
  | .fault => 1#8
  | .cooldown => 2#8
  | .joinDone => 3#8
  | .reset => 4#8

/-- A map state's byte. -/
def mapStateByte (m : MapState) : Byte := m.code.setWidth 8

/-- A factor set's byte. -/
def factorByte (f : FactorSet) : Byte := f.setWidth 8

/-- An origin's byte. -/
def Origin.byte : Origin → Byte
  | .fromLocal => 0#8
  | .fromNotice => 1#8
  | .fromRoster => 2#8

/-- A detector state's byte. -/
def DetState.byte : DetState → Byte
  | .disabled => 0#8
  | .serving => 1#8
  | .suspect => 2#8
  | .dark => 3#8
  | .recovering => 4#8
  | .drained => 5#8

/-- A roster slot state's byte. -/
def SlotState.byte : SlotState → Byte
  | .unknown => 0#8
  | .joining => 1#8
  | .present => 2#8
  | .silent => 3#8
  | .excluded => 4#8
  | .self => 7#8

/-- A tier's byte, 1 to 3. -/
def Tier.byte : Tier → Byte
  | .t1 => 1#8
  | .t2 => 2#8
  | .t3 => 3#8

/-- A current tier's byte: NONE is 0. -/
def currentByte : Option Tier → Byte
  | none => 0#8
  | some t => t.byte

/-- A condition's byte. -/
def Condition.byte : Condition → Byte
  | .unused => 0#8
  | .full => 1#8
  | .partly => 2#8
  | .blackhole => 3#8

/-- A revert mode's byte. -/
def RevertMode.byte : RevertMode → Byte
  | .revertive => 0#8
  | .sticky => 1#8

/-- A notice kind's byte. -/
def NoticeKind.byte (k : NoticeKind) : Byte := k.code.setWidth 8

/-- A way of return's byte. -/
def ReturnWay.byte : ReturnWay → Byte
  | .holdExpiry => 0#8
  | .release => 1#8

/-- A yes or no as a byte. -/
def boolByte (b : Bool) : Byte := if b then 1#8 else 0#8

/-- A small count as a byte. -/
def countByte (n : Nat) : Byte := BitVec.ofNat 8 n

/-- A member or bucket; one that holds no uplink is FFh (R173). -/
def memberByte : Option (Fin 64) → Byte
  | some u => idByte u
  | none => 0xFF#8

/-! ### Event records (11) -/

/-- The number of a kind, 1 to 16 in the order of R164's table. -/
def Detail.kindByte : Detail → Byte
  | .uplinkDark _ _ _ => 1#8
  | .uplinkGlitch _ _ => 2#8
  | .uplinkFlap _ _ _ => 3#8
  | .uplinkAwaiting _ => 4#8
  | .uplinkServing _ _ => 5#8
  | .peerUplink _ _ _ _ _ => 6#8
  | .noticeUnconfirmed _ _ _ => 7#8
  | .peerDeaf _ => 8#8
  | .peerJoined _ _ => 9#8
  | .peerExcluded _ _ => 10#8
  | .peerSilent _ => 11#8
  | .modeChange _ _ _ => 12#8
  | .groupTier _ _ _ => 13#8
  | .groupBlackhole _ => 14#8
  | .groupRestored _ _ => 15#8
  | .invalidationFlush _ => 16#8

/-- The detail bytes d0 to d5. -/
def Detail.bytes : Detail → List Byte
  | .uplinkDark c l n => [factorByte c, l.byte, countByte n, 0#8, 0#8, 0#8]
  | .uplinkGlitch c d => [factorByte c, d.extractLsb' 8 8, d.extractLsb' 0 8, 0#8, 0#8, 0#8]
  | .uplinkFlap f n a => [factorByte f, countByte n, boolByte a, 0#8, 0#8, 0#8]
  | .uplinkAwaiting n => [0#8, countByte n, 0#8, 0#8, 0#8, 0#8]
  | .uplinkServing n w => [0#8, countByte n, w.byte, 0#8, 0#8, 0#8]
  | .peerUplink o n e c g => [mapStateByte o, mapStateByte n, e, factorByte c, g.byte, 0#8]
  | .noticeUnconfirmed m st e => halfBytes m ++ [mapStateByte st, e, 0#8, 0#8]
  | .peerDeaf k => [k.byte, 0#8, 0#8, 0#8, 0#8, 0#8]
  | .peerJoined l e => [l.byte, e.byte, 0#8, 0#8, 0#8, 0#8]
  | .peerExcluded l f => l.byte :: halfBytes f ++ [0#8, 0#8, 0#8]
  | .peerSilent l => [l.byte, 0#8, 0#8, 0#8, 0#8, 0#8]
  | .modeChange o n c => [o.byte, n.byte, c.byte, 0#8, 0#8, 0#8]
  | .groupTier o n c => [o.byte, n.byte, c.byte, 0#8, 0#8, 0#8]
  | .groupBlackhole o => [o.byte, 0#8, 3#8, 0#8, 0#8, 0#8]
  | .groupRestored n c => [0#8, n.byte, c.byte, 0#8, 0#8, 0#8]
  | .invalidationFlush r => [countByte r, 0#8, 0#8, 0#8, 0#8, 0#8]

/-- An event record's 12 bytes. -/
def Event.bytes (e : Event) : List Byte := [e.detail.kindByte] ++ stampBytes e.time ++ [e.subject] ++ e.detail.bytes

/-! ### Replies (11) -/

/-- READ MAP's 8 bytes for the entry `e` of uplink `u`. -/
def entryBytes (u : Fin 64) (e : MapEntry) : List Byte :=
  [idByte u, mapStateByte e.state ||| (e.origin.byte <<< 2) ||| (if e.mark then 0x80#8 else 0#8), e.epoch, factorByte e.cause] ++
    stampBytes e.time

/-- READ ROSTER's 5 bytes for one slot; the own slot gives the station mode (R98). -/
def slotBytes (mode : Mode) (x : Slot) : List Byte :=
  match x.state with
  | .self => [7#8, mode.byte, 0#8, 0#8, 0#8]
  | .unknown | .joining | .present | .silent | .excluded =>
    [x.state.byte, countByte x.misses,
      boolByte x.deaf ||| (boolByte x.joinedMe <<< 1) ||| (boolByte x.foreign.isSome <<< 2)] ++ halfBytes (x.foreign.getD 0#16)

/-- The 8 member bytes of a tier, in list order. -/
def tierBytes (members : List (Fin 64)) : List Byte := (List.range 8).map fun k => memberByte members[k]?

/-- READ GROUP's 63 bytes. -/
def Group.bytes (g : Group) : List Byte :=
  [boolByte g.configured, g.revert.byte, currentByte g.current, g.condition.byte,
    countByte (g.members .t1).length, countByte (g.members .t2).length, countByte (g.members .t3).length] ++
    tierBytes (g.members .t1) ++ tierBytes (g.members .t2) ++ tierBytes (g.members .t3) ++ g.buckets.cells.map memberByte

/-! ### Answers on LKA (R137, R172) -/

/-- The answers of the lookup port (R137). -/
inductive Answer where
  | ok (uplink : Fin 64) (tier : Tier)
  | dropBlackhole
  | dropUnused
  | notReady
  | invalidate (group : Fin 256)
  | flushAll
  | empty
  deriving DecidableEq, Repr

/-- An answer's code. -/
def Answer.code : Answer → BitVec 3
  | .ok _ _ => 0#3
  | .dropBlackhole => 1#3
  | .dropUnused => 2#3
  | .notReady => 3#3
  | .invalidate _ => 4#3
  | .flushAll => 5#3
  | .empty => 6#3

/-- The tier field: 1 to 3 with OK, 0 otherwise. -/
def Answer.tierField : Answer → BitVec 2
  | .ok _ t => t.byte.setWidth 2
  | .dropBlackhole | .dropUnused | .notReady | .invalidate _ | .flushAll | .empty => 0#2

/-- The id field: uplink id with OK, group id with INVALIDATE, 0 otherwise. -/
def Answer.idField : Answer → Byte
  | .ok u _ => idByte u
  | .invalidate g => idByte g
  | .dropBlackhole | .dropUnused | .notReady | .flushAll | .empty => 0#8

/-- The 16-bit answer word: code, tier, three zeros, id (11, R172). -/
def Answer.word (a : Answer) : Half := a.code ++ a.tierField ++ 0#3 ++ a.idField

/-- PROBE's 3 reply bytes (11). -/
def Answer.probeBytes (a : Answer) : List Byte :=
  match a with
  | .ok u t => [0#8, idByte u, t.byte]
  | .dropBlackhole | .dropUnused | .notReady | .invalidate _ | .flushAll | .empty => [a.code.setWidth 8, 0xFF#8, 0#8]

namespace State

/-- The answer to a group and a hash (R115). A configured group outside BLACKHOLE holds an uplink in every bucket; a record
that does not is answered as a BLACKHOLE (log 18). -/
def lookupAnswer (s : State) (g : Fin 256) (hash : Half) : Answer :=
  if s.roster.mode = .offline then .notReady
  else
    let r := s.groups.get g
    if r.configured = false then .dropUnused
    else if r.condition = .blackhole then .dropBlackhole
    else match r.buckets.get (bucketOf hash), r.current with
      | some u, some t => .ok u t
      | none, _ | some _, none => .dropBlackhole

/-- An answer leaves on LKA and its request leaves the request order (R138). -/
def answer (s : State) (a : Answer) : State :=
  { s with lookup := ⟨s.lookup.requests.tail, some a.word⟩ }

end State

end Sys2Proof.Machine
end

