-- ==== Sys2Proof/Machine/LookupSteps.lean ====
section
/-! DEFINITION. The lookup port's requests and services (08, R137 to R143). -/

namespace Sys2Proof.Machine

/-- A request strobed: taken if LKRDY is high, and not taken otherwise (R138, R140). -/
def State.request (s : State) (r : Request) : State :=
  if s.lkrdy then { s with lookup := { s.lookup with requests := s.lookup.requests ++ [r] } } else s

/-- LOOKUP_REQUEST (R138, R172). -/
def execLookupRequest (word : BitVec 24) (s : State) : Host.Outcome State Fault Refusal :=
  .next (s.request (.lookup (requestGroup word) (requestHash word)))

/-- TAKE_REQUEST (R138). -/
def execTakeRequest (s : State) : Host.Outcome State Fault Refusal := .next (s.request .take)

/-- LOOKUP_SERVICE (R138, R139): requests are served in their order, so only an oldest request that is a lookup is. -/
def execLookupService (s : State) : Host.Outcome State Fault Refusal :=
  .next <| match s.lookup.requests with
    | .lookup g hash :: _ => s.answer (s.lookupAnswer g hash)
    | .take :: _ | [] => s

/-- A TAKE served from the invalidation queue (R143). -/
def State.take (s : State) : State :=
  if s.invalidation.flushAll then ({ s with invalidation := ⟨s.invalidation.ids, false⟩ } : State).answer .flushAll
  else match s.invalidation.ids with
    | g :: rest => ({ s with invalidation := ⟨rest, false⟩ } : State).answer (.invalidate g)
    | [] => s.answer .empty

/-- TAKE_SERVICE (R143). -/
def execTakeService (s : State) : Host.Outcome State Fault Refusal :=
  .next <| match s.lookup.requests with
    | .take :: _ => s.take
    | .lookup _ _ :: _ | [] => s

end Sys2Proof.Machine
end

