-- ==== Sys2Proof/Machine/ResetSteps.lean ====
section
/-! DEFINITION. FULL_RESET, RST_RELEASE, START and RESTART. -/

namespace Sys2Proof.Machine

/-- A command at the management port: ignored while RST is held (R149). -/
def portCommand (s : State) (effect : State → State) : Host.Outcome State Fault Refusal :=
  .next (if s.rstHeld then s else effect s)

/-- FULL_RESET (R19, R41, R63, R80, R100, R119, R136, R140, R147, R151, R170): every block at its full reset values with
RST held. The condition lines and MCS are inputs and keep their levels. -/
def execFullReset (straps : Fin 16) (s : State) : Host.Outcome State Fault Refusal :=
  .next (.fullReset straps (fun i => (s.detectors.get i).losLine) (fun i => (s.detectors.get i).lockLine)
    (decide (s.port.frame = .closed)) true
    s.pending s.pins s.drawn)

/-- RST_RELEASE (R140, R149): LKRDY rises. The port starts a frame at the next falling edge of MCS, and where MCS is low its
frame is `waiting` already, so that MCS has to rise first. -/
def execRstRelease (s : State) : Host.Outcome State Fault Refusal :=
  .next (if s.rstHeld then { s with rstHeld := false } else s)

/-- START taken in OFFLINE (R84, R85, R63, R151, R170). -/
def State.started (s : State) : State :=
  let s1 := s.startingValues.releaseLane.startSeeking.enterJoining
  let s2 := s1.changeMode .joining .host
  { s2 with port := { s2.port with locked := true } }

/-- START (R84, R155). -/
def execStart (s : State) : Host.Outcome State Fault Refusal :=
  portCommand s fun s => if s.roster.mode = .offline then s.started.done else s.refuse .wrongMode

/-- What RESTART does to the transmitter (R62). An abort driven for RESTART, or under way, ends with no outcome: nothing
stays captured. -/
def State.restartTransmitter (s : State) : State :=
  match s.lane.tx with
  | .idle => s.withLane { s.lane with captured := none, tally := none }
  | .arbitrating | .closing => s.releaseLane
  | .sending => s.withLane { s.lane with
      tx := .aborting, captured := none, tally := none, abortEnd := s.after Config.abortTicks }
  | .aborting => s.withLane { s.lane with captured := none, tally := none }

/-- RESTART taken in any mode but OFFLINE (R62, R63, R85, R90). -/
def State.restarted (s : State) : State :=
  (s.startingValues.restartTransmitter.startSeeking.enterJoining).changeMode .joining .reset

/-- RESTART (R90, R157). -/
def execRestart (s : State) : Host.Outcome State Fault Refusal :=
  portCommand s fun s => if s.roster.mode = .offline then s.refuse .wrongMode else s.restarted.done

end Sys2Proof.Machine
end

