-- ==== Sys2Proof/Machine/OperatorCommands.lean ====
section
/-! DEFINITION. The operating commands: DRAIN, UNDRAIN, RELEASE, RESTEER, LEAVE, REJOIN (02, 05, 07, R156, R157). -/

namespace Sys2Proof.Machine

/-- A command that names a local index: judged for its index, then for the mode, then by the detector (R156). -/
def detectorCommand (index : Byte) (s : State) (effect : State → Fin 4 → State) : Host.Outcome State Fault Refusal :=
  portCommand s fun s =>
    match localIndexArg index with
    | none => s.refuse .badArgument
    | some i => if s.roster.mode = .offline then s.refuse .wrongMode else effect s i

/-- The detector's move to DRAINED: every timer abandoned, the hold level kept (R36). -/
def State.drain (s : State) (i : Fin 4) : State :=
  s.transition i { s.detectors.get i with
    state := .drained, awaiting := false, qualify := none, suspect := none, hold := none, stability := none } 0#3

/-- DRAIN (R36). -/
def execDrain (index : Byte) (s : State) : Host.Outcome State Fault Refusal :=
  detectorCommand index s fun s i =>
    match (s.detectors.get i).state with
    | .disabled => s.refuse .wrongState
    | .drained => s.done
    | .serving | .suspect | .dark | .recovering => (s.drain i).done

/-- The detector's move out of DRAINED, by its present factors (R37). -/
def State.undrain (s : State) (i : Fin 4) : State :=
  let d := s.detectors.get i
  if d.failing = 0#3 then s.startHold i else s.transition i { d with state := .dark } d.failing

/-- UNDRAIN (R37). -/
def execUndrain (index : Byte) (s : State) : Host.Outcome State Fault Refusal :=
  detectorCommand index s fun s i =>
    match (s.detectors.get i).state with
    | .drained => (s.undrain i).done
    | .disabled | .serving | .suspect | .dark | .recovering => s.refuse .wrongState

/-- RELEASE (R38). -/
def execRelease (index : Byte) (s : State) : Host.Outcome State Fault Refusal :=
  detectorCommand index s fun s i =>
    let d := s.detectors.get i
    match d.config.clearMode, d.state, d.awaiting with
    | .held, .recovering, true => (s.enterServing i .release).done
    | .held, .recovering, false => s.refuse .tooEarly
    | _, _, _ => s.refuse .notAwaiting

/-- RESTEER (R127, R157). -/
def execResteer (group : Byte) (s : State) : Host.Outcome State Fault Refusal :=
  portCommand s fun s =>
    let g := groupArg group
    if s.roster.mode = .offline then s.refuse .wrongMode
    else if (s.groups.get g).configured = false then s.refuse .badArgument
    else (s.withEngine { s.engine with resteers := s.engine.resteers.set g true }).select.done

/-- LEAVE taken in JOINING, ACTIVE or ISOLATED (R61, R76, R87). The own tally slot of a notice in CLOSING is not driven any
more, whatever mode follows (R58). -/
def State.leave (s : State) : State :=
  let s1 := if s.lane.tx = .idle then s else s.releaseLane
  let s2 := s1.silenceAnnouncer.changeMode .quiet .host
  { s2 with
    roster := { s2.roster with joinWindow := none, cooldown := none }
    lane := { s2.lane with slotPermitted := false } }

/-- LEAVE (R87). -/
def execLeave (s : State) : Host.Outcome State Fault Refusal :=
  portCommand s fun s =>
    match s.roster.mode with
    | .offline => s.refuse .wrongMode
    | .quiet => s.done
    | .joining | .active | .isolated => s.leave.done

/-- REJOIN (R85, R88). -/
def execRejoin (s : State) : Host.Outcome State Fault Refusal :=
  portCommand s fun s =>
    match s.roster.mode with
    | .quiet | .isolated => (s.enterJoining.changeMode .joining .host).done
    | .offline | .joining | .active => s.refuse .wrongMode

end Sys2Proof.Machine
end

