-- ==== Sys2Proof/Machine/PortCommands.lean ====
section
/-! DEFINITION. The frame, the configuration commands and SET EVENT REPORTING (09, R148 to R155, R158). -/

namespace Sys2Proof.Machine

/-- A configuration command: refused with LOCKED at its command byte while the lock is closed (R151). -/
def configure (s : State) (effect : State → State) : Host.Outcome State Fault Refusal :=
  portCommand s fun s => if s.port.locked then s.refuse .locked else effect s

/-- A frame discarded, MCS having risen: nothing else changes and no status is given (R149). -/
def State.frameDropped (s : State) : State := { s with port := { s.port with frame := .closed } }

/-- FRAME_DISCARD (R149). -/
def execFrameDiscard (s : State) : Host.Outcome State Fault Refusal := portCommand s State.frameDropped

/-- UNKNOWN_COMMAND (R149). -/
def execUnknownCommand (_code : Byte) (s : State) : Host.Outcome State Fault Refusal :=
  portCommand s fun s => s.refuse .badArgument

/-- SET_STATION (R152). -/
def execSetStation (fingerprint : Half) (period silence : Byte) (s : State) : Host.Outcome State Fault Refusal :=
  configure s fun s =>
    match beaconPeriodArg period, silenceCountArg silence with
    | some p, some c =>
      ({ s with station := { s.station with fingerprint := fingerprint, period := p, silenceCount := c } } : State).done
    | _, _ => s.refuse .badArgument

/-- SET_UPLINK (R22, R153). -/
def execSetUplink (args : UplinkArgs) (s : State) : Host.Outcome State Fault Refusal :=
  configure s fun s =>
    match uplinkConfigArg args with
    | some (i, c) => (s.setDetector i { s.detectors.get i with config := c }).done
    | none => s.refuse .badArgument

/-- The member index's total after group `g` takes `members` members in all (R125). -/
def State.totalAfter (s : State) (g : Fin 256) (members : Nat) : Nat :=
  indexTotal s.engine.index - (s.groups.get g).references + members

/-- A WRITE GROUP whose last argument byte has arrived, judged against grounds 4 to 6 (R154, R118, R124). -/
def State.defineGroup (s : State) (g : Fin 256) (revert : RevertMode) (tiers : List (List Byte)) : State :=
  match tiers.mapM memberIds with
  | none => s.refuse .badArgument
  | some tiers =>
    if tiers.flatten.Nodup then
      if Config.indexLimit < s.totalAfter g tiers.flatten.length then s.refuse .indexFull
      else ((s.setGroup g (.defined revert tiers)).withEngine
        { s.engine with index := reindex s.engine.index g tiers.flatten }).done
    else s.refuse .badArgument

/-- WRITE_GROUP (R118, R124, R125, R154). -/
def execWriteGroup (args : List Byte) (s : State) : Host.Outcome State Fault Refusal :=
  configure s fun s =>
    match readGroupFrame args with
    | .incomplete => s.frameDropped
    | .badArgument => s.refuse .badArgument
    | .complete g revert tiers => s.defineGroup g revert tiers

/-- CLEAR_GROUP (R118, R124, R155). -/
def execClearGroup (group : Byte) (s : State) : Host.Outcome State Fault Refusal :=
  configure s fun s =>
    let g := groupArg group
    ((s.setGroup g .reset).withEngine { s.engine with index := reindex s.engine.index g [] }).done

/-- SET_EVENT_REPORTING (R158, R168). -/
def execSetEventReporting (trigger timeout : Byte) (s : State) : Host.Outcome State Fault Refusal :=
  portCommand s fun s =>
    match triggerArg trigger with
    | some t =>
      let q := { s.events with trigger := t, idleTimeout := timeout }
      (s.withEvents { q with idleTimer := if q.records.isEmpty then none else q.idleStart s.ticks }).done
    | none => s.refuse .badArgument

end Sys2Proof.Machine
end

