-- ==== Sys2Proof/Machine/ReadCommands.lean ====
section
/-! DEFINITION. The read commands (09, R159 to R162). -/

namespace Sys2Proof.Machine

/-- READ_STATUS (R59, R159): the reply as the command finds the part, then the lane flags and the overflow flag clear. -/
def execReadStatus (s : State) : Host.Outcome State Fault Refusal :=
  portCommand s fun s =>
    let reply := [s.roster.mode.byte, s.lane.flags.byte s.events.overflow s.port.locked, countByte s.lane.faults,
      countByte s.events.records.length]
    ((s.withFlags .clear).withEvents { s.events with overflow := false }).replied .done reply

/-- READ_EVENTS (R160, R166). -/
def execReadEvents (n : Byte) (s : State) : Host.Outcome State Fault Refusal :=
  portCommand s fun s =>
    if 1 ≤ n.toNat ∧ n.toNat ≤ 8 then
      let popped := s.events.records.take n.toNat
      (s.withEvents (s.events.pop s.ticks n.toNat)).replied .done (countByte popped.length :: popped.flatMap Event.bytes)
    else s.refuse .badArgument

/-- Clears the change mark of one entry (R16). -/
def State.clearMark (s : State) (u : Fin 64) : State := s.setEntry u { s.map.get u with mark := false }

/-- The uplink ids in ascending order. -/
def uplinks : List (Fin 64) := List.ofFn fun u => u

/-- READ_MAP (R16, R161). -/
def execReadMap (which : Byte) (s : State) : Host.Outcome State Fault Refusal :=
  portCommand s fun s =>
    match uplinkArg which with
    | some u => (s.clearMark u).replied .done (entryBytes u (s.map.get u))
    | none =>
      if which = 0xFF#8 then
        ({ s with map := .tabulate fun u => { s.map.get u with mark := false } } : State).replied .done
          (uplinks.flatMap fun u => entryBytes u (s.map.get u))
      else s.refuse .badArgument

/-- READ_ROSTER (R98, R162). -/
def execReadRoster (s : State) : Host.Outcome State Fault Refusal :=
  portCommand s fun s => s.replied .done (s.roster.slots.cells.flatMap (slotBytes s.roster.mode))

/-- READ_GROUP (R117, R162). -/
def execReadGroup (group : Byte) (s : State) : Host.Outcome State Fault Refusal :=
  portCommand s fun s => s.replied .done (s.groups.get (groupArg group)).bytes

/-- PROBE (R115, R162). -/
def execProbe (group : Byte) (hash : Half) (s : State) : Host.Outcome State Fault Refusal :=
  portCommand s fun s => s.replied .done (s.lookupAnswer (groupArg group) hash).probeBytes

end Sys2Proof.Machine
end

