-- ==== Sys2Proof/Machine/TimerSteps.lean ====
section
/-! DEFINITION. The expiries of the roster, the beacon, the mode machine and the Event Queue, and the engine's commit. -/

namespace Sys2Proof.Machine

/-- SILENCE_TIMER_EXPIRY (R96). -/
def execSilenceTimerExpiry (k : Fin 16) (s : State) : Host.Outcome State Fault Refusal :=
  let x := s.roster.slots.get k
  .next <|
    match x.state with
    | .joining | .present | .excluded => if x.silence.isSome then s.fallSilent k else s
    | .self | .unknown | .silent => s

/-- BEACON_TIMER_EXPIRY (R69). -/
def execBeaconTimerExpiry (s : State) : Host.Outcome State Fault Refusal :=
  .next <|
    if s.announcer.beaconTimer.isSome then { s with announcer := { s.announcer with beaconTimer := none, beaconDue := true } }
    else s

/-- JOIN_WINDOW_EXPIRY (R85, R86). -/
def execJoinWindowExpiry (s : State) : Host.Outcome State Fault Refusal :=
  .next <|
    if s.roster.mode = .joining ∧ s.roster.joinWindow.isSome then
      ({ s with roster := { s.roster with joinWindow := none, windowElapsed := true } } : State).testGuard
    else s

/-- COOLDOWN_EXPIRY (R85, R89). -/
def execCooldownExpiry (s : State) : Host.Outcome State Fault Refusal :=
  .next <|
    if s.roster.mode = .isolated ∧ s.roster.cooldown.isSome then s.enterJoining.changeMode .joining .cooldown else s

/-- EVALUATION_COMMIT (R111, R130, R133). -/
def execEvaluationCommit (s : State) : Host.Outcome State Fault Refusal :=
  .next <|
    match s.engine.work with
    | .idle => s
    | .sweep _ _ ev => (s.commit ev false).advance
    | .resteer ev => (s.commit ev true).advance

/-- IDLE_TIMER_EXPIRY (R167). -/
def execIdleTimerExpiry (s : State) : Host.Outcome State Fault Refusal :=
  .next (if s.events.idleTimer.isSome then s.withEvents { s.events with idleTimer := none, idleExpired := true } else s)

end Sys2Proof.Machine
end

