-- ==== Sys2Proof/Machine/Dispatch.lean ====
section
/-! DEFINITION. One arm per command: its meaning. -/

namespace Sys2Proof.Machine

def exec (i : Instr) (s : State) : Host.Outcome State Fault Refusal :=
  match i with
  | .fullReset straps => Sys2Proof.Machine.execFullReset straps s
  | .rstRelease => Sys2Proof.Machine.execRstRelease s
  | .frameDiscard => Sys2Proof.Machine.execFrameDiscard s
  | .unknownCommand code => Sys2Proof.Machine.execUnknownCommand code s
  | .setStation fingerprint period silence => Sys2Proof.Machine.execSetStation fingerprint period silence s
  | .setUplink args => Sys2Proof.Machine.execSetUplink args s
  | .writeGroup args => Sys2Proof.Machine.execWriteGroup args s
  | .clearGroup group => Sys2Proof.Machine.execClearGroup group s
  | .start => Sys2Proof.Machine.execStart s
  | .drain index => Sys2Proof.Machine.execDrain index s
  | .undrain index => Sys2Proof.Machine.execUndrain index s
  | .release index => Sys2Proof.Machine.execRelease index s
  | .resteer group => Sys2Proof.Machine.execResteer group s
  | .leave => Sys2Proof.Machine.execLeave s
  | .rejoin => Sys2Proof.Machine.execRejoin s
  | .restart => Sys2Proof.Machine.execRestart s
  | .setEventReporting trigger timeout => Sys2Proof.Machine.execSetEventReporting trigger timeout s
  | .readStatus => Sys2Proof.Machine.execReadStatus s
  | .readEvents n => Sys2Proof.Machine.execReadEvents n s
  | .readMap which => Sys2Proof.Machine.execReadMap which s
  | .readRoster => Sys2Proof.Machine.execReadRoster s
  | .readGroup group => Sys2Proof.Machine.execReadGroup group s
  | .probe group hash => Sys2Proof.Machine.execProbe group hash s
  | .lookupRequest word => Sys2Proof.Machine.execLookupRequest word s
  | .takeRequest => Sys2Proof.Machine.execTakeRequest s
  | .lookupService => Sys2Proof.Machine.execLookupService s
  | .takeService => Sys2Proof.Machine.execTakeService s
  | .losChange line high => Sys2Proof.Machine.execLosChange line high s
  | .lockChange line high => Sys2Proof.Machine.execLockChange line high s
  | .heartbeatPulse line => Sys2Proof.Machine.execHeartbeatPulse line s
  | .heartbeatWatchdogExpiry line => Sys2Proof.Machine.execHeartbeatWatchdogExpiry line s
  | .qualifyTimerExpiry line => Sys2Proof.Machine.execQualifyTimerExpiry line s
  | .restoreHoldExpiry line => Sys2Proof.Machine.execRestoreHoldExpiry line s
  | .stabilityTimerExpiry line => Sys2Proof.Machine.execStabilityTimerExpiry line s
  | .quietGapEnd => Sys2Proof.Machine.execQuietGapEnd s
  | .noticeStartOffer => Sys2Proof.Machine.execNoticeStartOffer s
  | .arbitrationLost => Sys2Proof.Machine.execArbitrationLost s
  | .txMismatch => Sys2Proof.Machine.execTxMismatch s
  | .abortPatternEnd => Sys2Proof.Machine.execAbortPatternEnd s
  | .noticeCompleted slots => Sys2Proof.Machine.execNoticeCompleted slots s
  | .noticeDecision n => Sys2Proof.Machine.execNoticeDecision n s
  | .receiveAbort => Sys2Proof.Machine.execReceiveAbort s
  | .receiveTruncation => Sys2Proof.Machine.execReceiveTruncation s
  | .badStartMark => Sys2Proof.Machine.execBadStartMark s
  | .silenceTimerExpiry k => Sys2Proof.Machine.execSilenceTimerExpiry k s
  | .beaconTimerExpiry => Sys2Proof.Machine.execBeaconTimerExpiry s
  | .joinWindowExpiry => Sys2Proof.Machine.execJoinWindowExpiry s
  | .cooldownExpiry => Sys2Proof.Machine.execCooldownExpiry s
  | .evaluationCommit => Sys2Proof.Machine.execEvaluationCommit s
  | .idleTimerExpiry => Sys2Proof.Machine.execIdleTimerExpiry s
  | .laneDominantLevel => Sys2Proof.Machine.execLaneDominantLevel s
  | .arbitrationWon => Sys2Proof.Machine.execArbitrationWon s
  | .receivedNoticeEnd => Sys2Proof.Machine.execReceivedNoticeEnd s

end Sys2Proof.Machine
end

