-- ==== Sys2Proof/Machine/Frames.lean ====
section
/-! DEFINITION. The management port's frames: which command a frame's bytes spell, the phases of a frame, and MDO (09, R148,
R149, R151 to R162; 11). -/

namespace Sys2Proof.Machine

/-- A command whose arguments are not read while the lock is closed (R151): the command then stands with arguments of 0, which
no one judges. -/
def unlessLocked (locked : Bool) (unread : Instr) (read : Option Instr) : Option Instr := if locked then some unread else read

/-- What the port makes of a command byte and the argument bytes received so far (R152 to R162): the command, once it is taken;
none while more bytes have to come. A command byte that names no command is taken at once (R149). -/
def readArguments (locked : Bool) (code : Byte) (args : List Byte) : Option Instr :=
  match code.toNat with
  | 1 => unlessLocked locked (.setStation 0 0 0) <|
    match args with
    | [f1, f0, period, silence] => some (.setStation (f1 ++ f0) period silence)
    | _ => none
  | 2 => unlessLocked locked (.setUplink ⟨0, 0, 0, 0, 0, 0, 0, 0⟩) <|
    match args with
    | [index, enabled, mask, tq, lo1, lo0, hi1, hi0, n, mode] =>
      some (.setUplink ⟨index, enabled, mask, tq, lo1 ++ lo0, hi1 ++ hi0, n, mode⟩)
    | _ => none
  | 3 => unlessLocked locked (.writeGroup []) <|
    match readGroupFrame args with
    | .incomplete => none
    | .badArgument | .complete _ _ _ => some (.writeGroup args)
  | 4 => unlessLocked locked (.clearGroup 0) (args.head?.map .clearGroup)
  | 5 => some .start
  | 16 => args.head?.map .drain
  | 17 => args.head?.map .undrain
  | 18 => args.head?.map .release
  | 19 => args.head?.map .resteer
  | 20 => some .leave
  | 21 => some .rejoin
  | 22 => some .restart
  | 23 =>
    match args with
    | [trigger, timeout] => some (.setEventReporting trigger timeout)
    | _ => none
  | 32 => some .readStatus
  | 33 => args.head?.map .readEvents
  | 34 => args.head?.map .readMap
  | 35 => some .readRoster
  | 36 => args.head?.map .readGroup
  | 37 =>
    match args with
    | [group, h1, h0] => some (.probe group (h1 ++ h0))
    | _ => none
  | _ => some (.unknownCommand code)

/-- What the port makes of the bytes of a frame received so far, the command byte first. -/
def readFrame (locked : Bool) : List Byte → Option Instr
  | [] => none
  | code :: args => readArguments locked code args

/-- A byte from its bits in the order sent, most significant first (R148). -/
def byteOfBits (bits : List Bool) : Byte := bits.foldl (fun b x => (b <<< 1) ||| (if x then 1#8 else 0#8)) 0#8

/-- The phases of a frame (R148). -/
inductive Phase where
  | command | arguments | reply | done
  deriving DecidableEq, Repr

/-- The phase of the frame in progress; none outside a frame (R148). -/
def Frame.phase : Frame → Option Phase
  | .closed | .waiting => none
  | .opening [] _ => some .command
  | .opening (_ :: _) _ => some .arguments
  | .taken reply falls => some (if falls ≤ 8 * reply.length then .reply else .done)

/-- The bit on MDO while a frame is in progress (R148): the filler's up to the first falling edge of MCK after the command is
taken; from falling edge n + 1 on, bit n of the reply, most significant first, and the filler's once the reply is over. The bits
of the filler are all the same (11). -/
def Frame.outBit : Frame → Bool
  | .closed | .waiting | .opening _ _ | .taken _ 0 => Config.filler.msb
  | .taken reply (n + 1) => (reply.getD (n / 8) Config.filler).getMsbD (n % 8)

/-- MDO's level; none where the port releases it, RST held or no frame in progress (R148, R149, log 11). -/
def State.mdo (s : State) : Option Bool :=
  if s.rstHeld then none else s.port.frame.phase.map fun _ => s.port.frame.outBit

end Sys2Proof.Machine
end

