-- ==== Sys2Proof/Machine/PortPins.lean ====
section
/-! DEFINITION. The edges at the management port's pins, by which a frame comes in bit by bit (09, R148, R149). -/

namespace Sys2Proof.Machine

/-- The frame in progress replaced. -/
def State.withFrame (s : State) (f : Frame) : State := { s with port := { s.port with frame := f } }

/-- MCS falls: a new frame in COMMAND; while RST is held, a level to wait out (R148, R149). -/
def takeMcsFall (s : State) : Host.Outcome State Fault Refusal :=
  .next <|
    if s.rstHeld then s.withFrame .waiting
    else match s.port.frame with
      | .closed => s.withFrame (.opening [] [])
      | .waiting | .opening _ _ | .taken _ _ => s

/-- MCS rises: a frame whose command is not taken is discarded, and a reply is cut short (R149). -/
def takeMcsRise (s : State) : Host.Outcome State Fault Refusal :=
  match s.port.frame with
  | .opening _ _ => if s.rstHeld then .next (s.withFrame .closed) else exec .frameDiscard s
  | .closed | .waiting | .taken _ _ => .next (s.withFrame .closed)

/-- A bit comes in before the command is taken: with the eighth bit of a byte, the command that the bytes then spell is taken
(R148). -/
def takeBit (s : State) (bytes : List Byte) (bits : List Bool) : Host.Outcome State Fault Refusal :=
  if bits.length < 8 then .next (s.withFrame (.opening bytes bits))
  else
    let bytes := bytes ++ [byteOfBits bits]
    match readFrame s.port.locked bytes with
    | some c => exec c s
    | none => .next (s.withFrame (.opening bytes []))

/-- MCK rises with MDI at a level: ignored outside a frame and while RST is held; a bit of the frame before the command is
taken; ignored after it (R148, R149). -/
def takeMckRise (mdi : Bool) (s : State) : Host.Outcome State Fault Refusal :=
  if s.rstHeld then .next s
  else match s.port.frame with
    | .closed | .waiting | .taken _ _ => .next s
    | .opening bytes bits => takeBit s bytes (bits ++ [mdi])

/-- MCK falls: MDO changes to its next bit once the command is taken; before that it is the filler's, as it was (R148, R149). -/
def takeMckFall (s : State) : Host.Outcome State Fault Refusal :=
  .next <|
    if s.rstHeld then s
    else match s.port.frame with
      | .closed | .waiting | .opening _ _ => s
      | .taken reply falls => s.withFrame (.taken reply (falls + 1))

/-- One edge at the management port's pins (R148, R149, log 29). -/
def takePin (edge : PortPin) (s : State) : Host.Outcome State Fault Refusal :=
  match edge with
  | .mcsFall => takeMcsFall s
  | .mckRise mdi => takeMckRise mdi s
  | .mckFall => takeMckFall s
  | .mcsRise => takeMcsRise s

end Sys2Proof.Machine
end

