-- ==== Sys2Proof/Machine/Clock.lean ====
section
/-! DEFINITION. What the part does when no command waits: it takes the edges that wait at the management port's pins, then its
own events that are due, else its clock moves one bit time on (log 1, log 2, log 29). -/

namespace Sys2Proof.Machine

namespace State

/-- An event of the part's own that is taken where it is due. -/
def eventIf (due : Bool) (c : Instr) : List Instr := if due then [c] else []

/-- The detector timers of local index `i` that have run out. -/
def detectorEvents (s : State) (i : Fin 4) : List Instr :=
  let d := s.detectors.get i
  eventIf (d.watchdog.due s.ticks) (.heartbeatWatchdogExpiry i) ++
  eventIf (decide (d.state = .suspect) && d.qualify.due s.ticks) (.qualifyTimerExpiry i) ++
  eventIf (decide (d.state = .recovering) && !d.awaiting && d.hold.due s.ticks) (.restoreHoldExpiry i) ++
  eventIf (d.stability.due s.ticks) (.stabilityTimerExpiry i)

/-- The Lane Interface's own events: the end of a quiet gap, the end of the abort pattern, an offer (R45, R48, R51).
A gap does not run while the station drives a notice or its receiver follows one: each of its bit times has a lead. -/
def laneEvents (s : State) : List Instr :=
  eventIf (s.gapCanEnd && s.lane.gapEnd.due s.ticks) .quietGapEnd ++
  eventIf (decide (s.lane.tx = .aborting) && s.lane.abortEnd.due s.ticks) .abortPatternEnd ++
  eventIf s.offersStart .noticeStartOffer

/-- The silence timer of peer `k` has run out. -/
def silenceEvent (s : State) (k : Fin 16) : List Instr :=
  let x := s.roster.slots.get k
  eventIf ((s.hearable k || decide (x.state = .excluded)) && x.silence.due s.ticks) (.silenceTimerExpiry k)

/-- The timers of the mode machine, the beacon and the Event Queue that have run out. -/
def stationEvents (s : State) : List Instr :=
  eventIf (s.announcer.beaconTimer.due s.ticks) .beaconTimerExpiry ++
  eventIf (decide (s.roster.mode = .joining) && s.roster.joinWindow.due s.ticks) .joinWindowExpiry ++
  eventIf (decide (s.roster.mode = .isolated) && s.roster.cooldown.due s.ticks) .cooldownExpiry ++
  eventIf (s.events.idleTimer.due s.ticks) .idleTimerExpiry

/-- The commit of the evaluation in flight, where its 0.4 µs have passed (R105). -/
def engineEvent (s : State) : List Instr :=
  match s.engine.work with
  | .idle => []
  | .sweep _ _ ev | .resteer ev => eventIf (decide (ev.due ≤ s.ticks)) .evaluationCommit

/-- The service of the oldest outstanding request (R138). -/
def serviceEvent (s : State) : List Instr :=
  match s.lookup.requests with
  | [] => []
  | .lookup _ _ :: _ => [.lookupService]
  | .take :: _ => [.takeService]

/-- The part's own events that are due now. -/
def ownEvents (s : State) : List Instr :=
  if s.rstHeld then []
  else indexes.flatMap s.detectorEvents ++ s.laneEvents ++ codes.flatMap s.silenceEvent ++ s.stationEvents ++
    s.engineEvent ++ s.serviceEvent

/-- The clock moves one bit time on; it stands while RST is held. -/
def tick (s : State) : State := if s.rstHeld then s else { s with ticks := s.ticks + 1 }

/-- Of several events that are due, one taken by a free choice (log 2). -/
def pick (s : State) (first : Instr) (rest : List Instr) : Instr :=
  let due := first :: rest
  due.getD (Config.freeChoice s.drawn % due.length) first

end State

/-- A step with no command and no edge waiting: one of the part's own events that are due, else a tick (log 1, log 2). -/
def ownStep (s : State) : Host.Outcome State Fault Refusal :=
  match s.ownEvents with
  | [] => .next s.tick
  | [c] => exec c s
  | first :: rest => exec (s.pick first rest) { s with drawn := s.drawn + 1 }

/-- A step with no command waiting: the edge that waits first at the management port, else what the part does by itself
(log 29). -/
def idleStep (s : State) : Host.Outcome State Fault Refusal :=
  match s.pins with
  | edge :: rest => takePin edge { s with pins := rest }
  | [] => ownStep s

end Sys2Proof.Machine
end

