-- ==== Sys2Proof/Safety.lean ====
section
/-! DEFINITION. The laws the manual states of the part at every moment: what a safe run keeps. -/

namespace Sys2Proof.Machine

/-- The Event Queue holds at most 32 records (R163), the port at most four requests (R138), a peer at most eight misses
(R92), the count at most eight faults (R52). -/
abbrev WithinBounds (s : State) : Prop :=
  s.events.records.length ≤ 32 ∧ s.lookup.requests.length ≤ 4 ∧ s.lane.faults ≤ 8 ∧
    ∀ k : Fin 16, (s.roster.slots.get k).misses ≤ 8

/-- The invalidation queue holds no group twice and at most 16, and is empty whenever the flush-all mark is set (R141). -/
abbrev InvalidationLaw (s : State) : Prop :=
  s.invalidation.ids.Nodup ∧ s.invalidation.ids.length ≤ 16 ∧
    (s.invalidation.flushAll = true → s.invalidation.ids = [])

/-- The configuration lock is closed in every mode but OFFLINE and open in OFFLINE (R151). -/
abbrev LockLaw (s : State) : Prop := s.port.locked = decide (s.roster.mode ≠ .offline)

/-- In OFFLINE the part is at rest (R18, R41, R82, R98, R135): no uplink is on the map, no detector watches, the receiver
is OFF, every peer is UNKNOWN, and the Sweep Engine has nothing to do. -/
abbrev OfflineLaw (s : State) : Prop :=
  s.roster.mode = .offline →
    (∀ u : Fin 64, (s.map.get u).state = .absent) ∧
    (∀ i : Fin 4, (s.detectors.get i).state = .disabled ∧ (s.detectors.get i).watchdog = none ∧
      (s.detectors.get i).stability = none) ∧
    s.lane.tx = .idle ∧ s.lane.rx = .off ∧
    (∀ k : Fin 16, (s.roster.slots.get k).state = .self ∨ (s.roster.slots.get k).state = .unknown) ∧
    s.engine.work = .idle ∧ (∀ u : Fin 64, s.engine.dirty.get u = false) ∧
    (∀ g : Fin 256, s.engine.resteers.get g = false)

/-- A frame before its command is taken holds fewer than eight bits of the byte coming in, and bytes that spell no command
yet (R148); while RST is held no frame is in progress (R149). -/
abbrev FrameLaw (s : State) : Prop :=
  match s.port.frame with
  | .closed | .waiting => True
  | .opening bytes bits => s.rstHeld = false ∧ bits.length < 8 ∧ readFrame s.port.locked bytes = none
  | .taken _ _ => s.rstHeld = false

/-- While RST is held the station is OFFLINE (R19, R140). -/
abbrev HeldLaw (s : State) : Prop := s.rstHeld = true → s.roster.mode = .offline

/-- The own slot is SELF and no other is (R92). -/
abbrev SelfLaw (s : State) : Prop := ∀ k : Fin 16, (s.roster.slots.get k).state = .self ↔ k = s.station.code

/-- Each own entry's state is the image of its detector's (R3). -/
abbrev ImageLaw (s : State) : Prop := ∀ i : Fin 4, (s.ownEntry i).state = (s.detectors.get i).state.image

/-- A peer that is UNKNOWN, SILENT or EXCLUDED has its four entries ABSENT (R14). -/
abbrev AbsenceLaw (s : State) : Prop :=
  ∀ k : Fin 16, State.unheard (s.roster.slots.get k) = true → ∀ i : Fin 4, (s.map.get (uplinkId k i)).state = .absent

/-- One detector's items agree with its state (R21, R26, R30, R31): masked factors are not failing, awaiting release and
the restore hold belong to RECOVERING, the qualify timer and the suspect record to SUSPECT, the stability timer to
SERVING and SUSPECT, and the level is at most 6. -/
abbrev Detector.Lawful (d : Detector) : Prop :=
  d.failing &&& ~~~d.config.mask = 0#3 ∧
  (d.awaiting = true → d.state = .recovering) ∧
  (d.hold.isSome = true → d.state = .recovering ∧ d.awaiting = false) ∧
  (d.state = .recovering → d.awaiting = false → d.hold.isSome = true) ∧
  (d.qualify.isSome = true ↔ d.state = .suspect) ∧
  (d.suspect.isSome = true ↔ d.state = .suspect) ∧
  (d.stability.isSome = true → d.state = .serving ∨ d.state = .suspect) ∧
  (d.watchdog.isSome = true → d.state ≠ .disabled ∧ d.config.mask.has FactorSet.hb = true) ∧
  (d.state = .serving ∨ d.state = .recovering → d.failing = 0#3) ∧
  (d.state = .suspect ∨ d.state = .dark → d.failing ≠ 0#3) ∧
  (d.state = .disabled → d.failing = 0#3) ∧
  d.level ≤ 6

/-- Every detector is lawful, and while the configuration lock is open every detector is DISABLED (R21, R22, R41). -/
abbrev DetectorLaw (s : State) : Prop :=
  (∀ i : Fin 4, (s.detectors.get i).Lawful) ∧
  (s.port.locked = false → ∀ i : Fin 4, (s.detectors.get i).state = .disabled)

/-- An announce entry agrees with its state (R64). -/
abbrev AnnounceEntry.Lawful (a : AnnounceEntry) : Prop :=
  (a.state = .clean ∨ a.state = .pending → a.sends = 0 ∧ a.heardBy = 0#16) ∧
  (a.state = .outstanding → 1 ≤ a.sends ∧ a.sends ≤ 3)

/-- Every announce entry is lawful (R64). -/
abbrev AnnounceLaw (s : State) : Prop := ∀ i : Fin 4, (s.announcer.entries.get i).Lawful

/-- The station drives the lane only in JOINING and ACTIVE (R44), and a transmitter that is not IDLE and not driving an
abort pattern holds a captured notice (R48, R67); the receiver is OFF in OFFLINE and in no other mode (R54, R63); the own tally
slot is permitted only while a notice is in CLOSING and the mode drives the lane (R58). -/
abbrev LaneLaw (s : State) : Prop :=
  (s.lane.tx ≠ .idle → s.roster.mode.transmits = true) ∧
  (s.lane.tx = .arbitrating ∨ s.lane.tx = .sending ∨ s.lane.tx = .closing → s.lane.captured.isSome = true) ∧
  (s.lane.rx = .off ↔ s.roster.mode = .offline) ∧
  (s.lane.slotPermitted = true → s.lane.rx = .closing ∧ s.roster.mode.transmits = true)

/-- The join window runs in JOINING alone, the cool-down in ISOLATED alone (R99), the beacon timer in JOINING and ACTIVE
alone (R69), and beacon due is set only there (R69). -/
abbrev TimerLaw (s : State) : Prop :=
  (s.roster.joinWindow.isSome = true → s.roster.mode = .joining) ∧
  (s.roster.cooldown.isSome = true → s.roster.mode = .isolated) ∧
  (s.announcer.beaconTimer.isSome = true → s.roster.mode.transmits = true) ∧
  (s.announcer.beaconDue = true → s.roster.mode.transmits = true)

/-- The ring holds every uplink once (R126), and an idle engine has nothing waiting (R128). -/
abbrev EngineLaw (s : State) : Prop :=
  s.engine.ring.Nodup ∧ (∀ u : Fin 64, u ∈ s.engine.ring) ∧
  (s.engine.work = .idle → (∀ u : Fin 64, s.engine.dirty.get u = false) ∧ ∀ g : Fin 256, s.engine.resteers.get g = false)

/-! ### The steering laws (R134) -/

/-- Each group has at most three tiers, and an unconfigured one has none (R101, R102). -/
abbrev TierLaw (s : State) : Prop :=
  ∀ g : Fin 256, (s.groups.get g).tiers.length ≤ 3 ∧
    ((s.groups.get g).configured = false → s.groups.get g = Group.reset)

/-- The member index names, for each uplink, exactly the configured groups that name it (R124). -/
abbrev IndexLaw (s : State) : Prop :=
  ∀ (u : Fin 64) (g : Fin 256),
    g ∈ s.engine.index.get u ↔ (s.groups.get g).configured = true ∧ u ∈ (s.groups.get g).allMembers

/-- Each list of the member index ascends, and the references are at most 4096 in all (R124, R125). -/
abbrev IndexOrder (s : State) : Prop :=
  (∀ u : Fin 64, (s.engine.index.get u).Pairwise (fun a b => a.val < b.val)) ∧ indexTotal s.engine.index ≤ 4096

/-- Group `g` will be visited for uplink `m`: `m` is dirty, or in sweep with `g` not yet committed in it (R132). -/
def Awaited (s : State) (g : Fin 256) (m : Fin 64) : Prop :=
  s.engine.dirty.get m = true ∨
    ∃ (p : Nat) (ev : Evaluation), s.engine.work = .sweep m p ev ∧ g ∈ (s.engine.index.get m).drop p

/-- Every configured group steers onto usable members of its current tier, but for members awaited; a BLACKHOLE names no
usable member but awaited ones (R103, R134). -/
def BucketLaw (s : State) : Prop :=
  ∀ g : Fin 256, (s.groups.get g).configured = true →
    ((s.groups.get g).condition = .blackhole ↔ (s.groups.get g).current = none) ∧
    (s.groups.get g).condition ≠ .unused ∧
    match (s.groups.get g).current with
    | none => (∀ b : Fin 32, (s.groups.get g).buckets.get b = none) ∧
        ∀ m ∈ (s.groups.get g).allMembers, s.usable m = true → Awaited s g m
    | some t => ∀ b : Fin 32, ∃ m : Fin 64, (s.groups.get g).buckets.get b = some m ∧ m ∈ (s.groups.get g).members t ∧
        (s.usable m = true ∨ Awaited s g m)

/-- The evaluation in flight, where there is one. -/
def Work.evaluation : Work → Option Evaluation
  | .idle => none
  | .sweep _ _ ev => some ev
  | .resteer ev => some ev

/-- The evaluation in flight is of a configured group, at its place in the sweep, and its reading is right but for
members that have been dirtied since (R105, R130, R131). -/
def ReadingLaw (s : State) : Prop :=
  (∀ ev, s.engine.work.evaluation = some ev →
    (s.groups.get ev.group).configured = true ∧
    ∀ m ∈ (s.groups.get ev.group).allMembers, (m ∈ ev.usable ↔ s.usable m = true) ∨ s.engine.dirty.get m = true) ∧
  (∀ u p ev, s.engine.work = .sweep u p ev → (s.engine.index.get u)[p]? = some ev.group) ∧
  (∀ g : Fin 256, s.engine.resteers.get g = true → (s.groups.get g).configured = true)

/-- Everything the steering laws rest on. -/
def SteeringInv (s : State) : Prop :=
  LockLaw s ∧ OfflineLaw s ∧ TierLaw s ∧ IndexLaw s ∧ EngineLaw s ∧ BucketLaw s ∧ ReadingLaw s

/-- Uplink `m` is in the dirty set or is the uplink in sweep (R134). -/
def DirtyOrInSweep (s : State) (m : Fin 64) : Prop :=
  s.engine.dirty.get m = true ∨ ∃ (p : Nat) (ev : Evaluation), s.engine.work = .sweep m p ev

/-- The two steering laws in the manual's words (R134). -/
def SteeringLaws (s : State) : Prop :=
  ∀ g : Fin 256, (s.groups.get g).configured = true →
    ((s.groups.get g).condition ≠ .blackhole →
      ∃ t : Tier, (s.groups.get g).current = some t ∧
        ∀ b : Fin 32, ∃ m : Fin 64, (s.groups.get g).buckets.get b = some m ∧ m ∈ (s.groups.get g).members t ∧
          (s.usable m = false → DirtyOrInSweep s m)) ∧
    ((s.groups.get g).condition = .blackhole →
      ∀ m ∈ (s.groups.get g).allMembers, s.usable m = true → DirtyOrInSweep s m)

end Sys2Proof.Machine
end

