-- ==== Sys2Proof/Certificates/Slice0/Obligations.lean ====
section
/-! DEFINITION. The statements for the provers, and the few words they are said in. -/

namespace Sys2Proof.Machine

/-! ### Words the statements share -/

/-- The port is in REPLY with these bytes, status byte first, MCK not fallen since; nothing else differs (R148). -/
def answered (s : State) (bytes : List Byte) : State := { s with port := { s.port with frame := .taken bytes 0 } }

/-- Several records pushed one after another in one step (R163, R164). -/
def pushedAll (s : State) (records : List (Byte × Detail)) : EventQueue :=
  records.foldl (fun q r => q.push s.ticks ⟨s.now, r.1, r.2⟩) s.events

/-- The own uplink `i` has the detector `d`, and its entry changes to `m` with `cause` (R4, R13, R65). -/
def ownClaim (s : State) (i : Fin 4) (d : Detector) (m : MapState) (cause : FactorSet) : State :=
  let u := uplinkId s.station.code i
  let old := s.map.get u
  let changed : State := { s with
    detectors := s.detectors.set i d
    map := s.map.set u ⟨m, old.epoch + 1#8, .fromLocal, cause, true, s.now⟩
    announcer := { s.announcer with
      entries := s.announcer.entries.modify i fun a => { a with state := .pending, sends := 0, heardBy := 0#16 } } }
  if old.state = .inService ↔ m = .inService then changed else changed.addDirty u

/-- The entry to DARK from SERVING or SUSPECT with some watched factor failing (R29, R31). -/
def darkEntered (s : State) (i : Fin 4) : State :=
  let d := s.detectors.get i
  let level := if d.stability.isSome then min 6 (d.level + 1) else d.level
  (ownClaim s i
    { d with state := .dark, qualify := none, suspect := none, stability := none, level := level } .dark d.failing).push
    (idByte (uplinkId s.station.code i)) (.uplinkDark d.failing d.state level)

/-- The entry to SERVING from RECOVERING (R34, R38). -/
def servingEntered (s : State) (i : Fin 4) (way : ReturnWay) : State :=
  let d := s.detectors.get i
  (ownClaim s i
    { d with state := .serving, awaiting := false, hold := none, stability := some (s.ticks + 16 * (2500000 * d.config.holdBase)) }
    .inService 0#3).push
    (idByte (uplinkId s.station.code i)) (.uplinkServing d.level way)

/-- A detector in RECOVERING with a new restore hold at its present level (R30, R32). -/
def recoveringFrom (t : Nat) (d : Detector) : Detector :=
  { d with state := .recovering, awaiting := false, hold := some (t + 2500000 * d.config.holdBase * 2 ^ d.level) }

/-- SET UPLINK's arguments pass every check (R22, R153, R173). -/
def ValidUplink (a : UplinkArgs) : Prop :=
  a.index.toNat ≤ 3 ∧ a.enabled.toNat ≤ 1 ∧ a.mask.toNat ≤ 7 ∧ a.tq.toNat ≤ 3 ∧
  1 ≤ a.hbMin.toNat ∧ a.hbMax.toNat ≤ 4095 ∧ a.hbMin.toNat ≤ a.hbMax.toNat ∧
  1 ≤ a.n.toNat ∧ a.n.toNat ≤ 32 ∧ a.clearMode.toNat ≤ 1

/-- A member count and the members, as WRITE GROUP sends a tier (R154). -/
def tierArgs (members : List Byte) : List Byte := BitVec.ofNat 8 members.length :: members

/-- WRITE GROUP's arguments in the order sent (R154). -/
def groupArgs (g revert : Byte) (tiers : List (List Byte)) : List Byte :=
  g :: revert :: BitVec.ofNat 8 tiers.length :: tiers.flatMap tierArgs

/-- One to three tiers of one to eight members each (R102). -/
def TierShape {α : Type} (tiers : List (List α)) : Prop :=
  1 ≤ tiers.length ∧ tiers.length ≤ 3 ∧ ∀ t ∈ tiers, 1 ≤ t.length ∧ t.length ≤ 8

/-- The references after group `g` is given `members` members in all (R125). -/
def referencesAfter (s : State) (g : Fin 256) (members : Nat) : Nat :=
  indexTotal s.engine.index - (if (s.groups.get g).configured then (s.groups.get g).allMembers.length else 0) + members

/-- An unconfigured record (R101). -/
def unconfigured : Group := ⟨false, .revertive, [], none, .fill none, .unused⟩

/-- A detector as START or RESTART at tick `t` makes it (R42, R43). -/
def StartedFrom (t : Nat) (old new : Detector) : Prop :=
  new.losLine = old.losLine ∧ new.lockLine = old.lockLine ∧ new.config = old.config ∧ new.awaiting = false ∧
  new.lastPulse = none ∧ new.qualify = none ∧ new.suspect = none ∧ new.stability = none ∧ new.level = 0 ∧
  (old.config.enabled = false → new.state = .disabled ∧ new.failing = 0#3 ∧ new.watchdog = none ∧ new.hold = none) ∧
  (old.config.enabled = true →
    new.failing.has FactorSet.los = (old.config.mask.has FactorSet.los && old.losLine) ∧
    new.failing.has FactorSet.lock = (old.config.mask.has FactorSet.lock && !old.lockLine) ∧
    new.failing.has FactorSet.hb = old.config.mask.has FactorSet.hb ∧
    new.watchdog = (if old.config.mask.has FactorSet.hb then some (t + 200 * old.config.hbMax) else none) ∧
    (new.failing ≠ 0#3 → new.state = .dark ∧ new.hold = none) ∧
    (new.failing = 0#3 → new.state = .recovering ∧ new.hold = some (t + 2500000 * old.config.holdBase)))

/-- The values that START and RESTART both give (R20, R42, R63, R80, R85, R100, R120, R136, R147). -/
def StartingValues (s t : State) : Prop :=
  (t.pending = s.pending ∧ t.pins = s.pins ∧ t.drawn = s.drawn ∧ t.rstHeld = s.rstHeld ∧ t.ticks = s.ticks ∧
    t.station = s.station ∧ t.lookup = s.lookup) ∧
  (∀ u : Fin 64, t.map.get u =
    if ownerOf u = s.station.code then
      ⟨if (s.detectors.get (localIndex u)).config.enabled then .dark else .absent, 0#8, .fromLocal, 0#3, false, s.now⟩
    else ⟨.absent, 0#8, .fromRoster, 0#3, false, s.now⟩) ∧
  (∀ i : Fin 4, StartedFrom s.ticks (s.detectors.get i) (t.detectors.get i)) ∧
  (t.lane.rx = .seeking ∧ t.lane.captured = none ∧ t.lane.tally = none ∧ t.lane.faults = 0 ∧ t.lane.flags = s.lane.flags ∧
    t.lane.slotPermitted = false) ∧
  ((∀ i : Fin 4, t.announcer.entries.get i = ⟨.clean, 0, 0#8, 0#16⟩) ∧ t.announcer.beaconTimer = none ∧
    t.announcer.beaconDue = true) ∧
  ((∀ k : Fin 16, t.roster.slots.get k = ⟨if k = s.station.code then .self else .unknown, none, 0, false, false, none⟩) ∧
    t.roster.mode = .joining ∧ t.roster.joinWindow = some (s.ticks + s.silenceTicks) ∧ t.roster.windowElapsed = false ∧
    t.roster.cooldown = none) ∧
  (∀ g : Fin 256, t.groups.get g =
    if (s.groups.get g).configured then
      { s.groups.get g with current := none, buckets := .fill none, condition := .blackhole }
    else unconfigured) ∧
  ((∀ u : Fin 64, t.engine.dirty.get u = false) ∧ t.engine.work = .idle ∧ t.engine.ring = List.ofFn (fun u => u) ∧
    (∀ g : Fin 256, t.engine.resteers.get g = false) ∧ t.engine.index = s.engine.index) ∧
  t.invalidation = ⟨[], true⟩

/-- The effects of every entry to JOINING (R69, R85), with its MODE_CHANGE (R83). -/
def joiningEntered (s : State) (cause : ModeCause) : State :=
  { s with
    roster := { s.roster with
      mode := .joining
      slots := .tabulate fun k => { s.roster.slots.get k with joinedMe := false }
      joinWindow := some (s.ticks + s.silenceTicks)
      windowElapsed := false
      cooldown := none }
    lane := { s.lane with faults := 0 }
    announcer := { s.announcer with beaconTimer := none, beaconDue := true }
    events := (s.push (idByte s.station.code) (.modeChange s.roster.mode .joining cause)).events }

/-- Every entry CLEAN and the beacon stopped, as an entry to QUIET or ISOLATED leaves them (R76). -/
def Silenced (old new : Announcer) : Prop :=
  (∀ i : Fin 4, new.entries.get i = { old.entries.get i with state := .clean, sends := 0, heardBy := 0#16 }) ∧
  new.beaconTimer = none ∧ new.beaconDue = false

/-- A bit time or more of the lane recessive: the gap counts anew from now, where it does not end later (R45, log 8). -/
def recounted (s : State) : Timer := some (max (s.lane.gapEnd.getD 0) (s.ticks + 12))

/-- A slot after the hears-me bookkeeping of a notice with tally set `tally` (R71). -/
def bookkept (s : State) (join : Bool) (tally : StationSet) (k : Fin 16) : Slot :=
  let x := s.roster.slots.get k
  if x.state = .joining ∨ x.state = .present then
    if tally.has k then { x with misses := 0, deaf := false, joinedMe := x.joinedMe || join }
    else { x with misses := min 8 (x.misses + 1), deaf := x.deaf || x.misses + 1 == 8 }
  else x

/-- The peers whose eighth miss in a row this notice is (R71). -/
def newlyDeaf (s : State) (tally : StationSet) : List (Fin 16) :=
  (List.ofFn fun k : Fin 16 => k).filter fun k =>
    s.hearable k && !tally.has k && (s.roster.slots.get k).misses + 1 == 8

/-- What the end of a won notice makes of a carried entry whose own record is still at its sent epoch, with `missing` the
expected hearers that have not heard it (R72, R73). -/
def settled (a : AnnounceEntry) (tally missing : StationSet) : AnnounceEntry :=
  if missing = 0#16 ∨ 4 ≤ a.sends + 1 then { a with state := .clean, sends := 0, heardBy := 0#16 }
  else { a with state := .outstanding, sends := a.sends + 1, heardBy := a.heardBy ||| tally }

/-- The expected hearers that have heard entry `i` in no send at its epoch, this one included; `hearers` holds the roster as
the bookkeeping leaves it (R73). -/
def missingAt (s hearers : State) (tally : StationSet) (i : Fin 4) : StationSet :=
  hearers.expectedHearers &&& ~~~((s.announcer.entries.get i).heardBy ||| tally)

/-- The entries that the notice carried at their present epoch (R72). -/
def countedEntries (s : State) (n : Notice) : List (Fin 4) :=
  n.carried.filter fun i => decide ((s.ownEntry i).epoch = (s.announcer.entries.get i).sentEpoch)

/-- The entries given up at their fourth send (R73, R79). -/
def unconfirmed (s hearers : State) (n : Notice) (tally : StationSet) : List (Fin 4) :=
  (countedEntries s n).filter fun i =>
    decide (missingAt s hearers tally i ≠ 0#16) && decide (4 ≤ (s.announcer.entries.get i).sends + 1)

/-- The records that the end of a won notice pushes before any change of mode, in order (R79). -/
def endRecords (s hearers : State) (n : Notice) (tally : Option StationSet) : List (Byte × Detail) :=
  (match tally with
    | some slots => (newlyDeaf s slots).map fun k => (idByte k, .peerDeaf n.kind)
    | none => []) ++
  (unconfirmed s hearers n (tally.getD 0#16)).map fun i =>
    (idByte (uplinkId s.station.code i),
      .noticeUnconfirmed (missingAt s hearers (tally.getD 0#16) i) (s.ownEntry i).state (s.ownEntry i).epoch)

/-- The lane as a won notice's end leaves it (R45, R51, R52; the gap's count: log 8): `own` says that it completed with the own
slot dominant. -/
def laneAfterEnd (s : State) (tally : Option StationSet) (own : Bool) : Lane :=
  { s.lane with
    tx := .idle, captured := none, tally := tally, abortEnd := none, gapEnd := recounted s
    faults := if own then 0 else min 8 (s.lane.faults + 1)
    flags := { s.lane.flags with txFault := s.lane.flags.txFault || !own } }

/-- The won notice `n` of state `s` ends, command `c` ending it: `tally` is none where it was aborted (R51, R52). -/
def EndsNotice (s : State) (c : Instr) (n : Notice) (tally : Option StationSet) : Prop :=
  s.lane.captured = some n ∧ n.carried.Nodup ∧
  ((c = .abortPatternEnd ∧ s.lane.tx = .aborting ∧ tally = none) ∨
    ∃ slots, c = .noticeCompleted slots ∧ s.lane.tx = .closing ∧ tally = some slots)

/-- The notice completed with the own slot dominant (R52). -/
def ownHeard (s : State) (tally : Option StationSet) : Bool := (tally.getD 0#16).has s.station.code

/-- A good notice (R56): it passes checks 1 to 4. -/
def Good (n : RxNotice) : Prop :=
  n.crcComputed = n.crc ∧ n.kind ≠ 3#2 ∧ (n.records.map Record.index).Nodup ∧ n.pause = 3#2

/-- The lane after a notice is dropped at the decision, with the flags given (R50, R56). -/
def laneDropped (s : State) (flags : LaneFlags) : Lane :=
  { s.lane with
    tx := if s.lane.tx = .sending then .closing else s.lane.tx
    rx := .discarding, slotPermitted := false, gapEnd := recounted s, flags := flags }

/-- The lane after a notice is accepted at the decision (R50, R56, R58). -/
def laneAccepted (s : State) : Lane :=
  { s.lane with
    tx := if s.lane.tx = .sending then .closing else s.lane.tx
    rx := .closing
    slotPermitted := decide (s.roster.mode = .joining ∨ s.roster.mode = .active) }

/-- The commit of evaluation `ev`: the record, the group event, the offer (R111, R112). -/
def committed (s : State) (ev : Evaluation) (resteer : Bool) : State :=
  let old := s.groups.get ev.group
  let new := old.evaluate ev.usable resteer
  let written : State := { s with groups := s.groups.set ev.group new }
  if old.buckets = new.buckets ∧ old.current = new.current then written
  else match old.current, new.current with
    | some a, some b =>
      if a = b then written.offer ev.group
      else (written.push (idByte ev.group) (.groupTier a b new.condition)).offer ev.group
    | some a, none => (written.push (idByte ev.group) (.groupBlackhole a)).offer ev.group
    | none, some b => (written.push (idByte ev.group) (.groupRestored b new.condition)).offer ev.group
    | none, none => written.offer ev.group

/-- The station would offer a start: the five conditions of an offer (R48, R66). -/
def WouldOffer (s : State) : Prop :=
  s.lane.tx = .idle ∧ (s.roster.mode = .joining ∨ s.roster.mode = .active) ∧ s.lane.rx = .ready ∧ s.lane.quiet = true ∧
    ((∃ i : Fin 4, (s.announcer.entries.get i).state ≠ .clean) ∨ s.announcer.beaconDue = true)

/-- The command stands for an event of the part's own that is due at the present tick: a running timer at or past its end, the
commit at its end, an offer, the service of the oldest request (R25, R29, R31, R34, R45, R48, R51, R69, R85, R89, R96, R105,
R138, R167). -/
def DueEvent (s : State) (c : Instr) : Prop :=
  let due (timer : Timer) := ∃ e : Nat, timer = some e ∧ e ≤ s.ticks
  (∃ i : Fin 4,
    (c = .heartbeatWatchdogExpiry i ∧ due (s.detectors.get i).watchdog) ∨
    (c = .qualifyTimerExpiry i ∧ (s.detectors.get i).state = .suspect ∧ due (s.detectors.get i).qualify) ∨
    (c = .restoreHoldExpiry i ∧ (s.detectors.get i).state = .recovering ∧ (s.detectors.get i).awaiting = false ∧
      due (s.detectors.get i).hold) ∨
    (c = .stabilityTimerExpiry i ∧ due (s.detectors.get i).stability)) ∨
  (c = .quietGapEnd ∧ s.lane.tx = .idle ∧ s.lane.rx ≠ .receiving ∧ s.lane.rx ≠ .closing ∧ due s.lane.gapEnd) ∨
  (c = .abortPatternEnd ∧ s.lane.tx = .aborting ∧ due s.lane.abortEnd) ∨
  (c = .noticeStartOffer ∧ WouldOffer s) ∨
  (∃ k : Fin 16, c = .silenceTimerExpiry k ∧ (s.roster.slots.get k).state ∈ [SlotState.joining, .present, .excluded] ∧
    due (s.roster.slots.get k).silence) ∨
  (c = .beaconTimerExpiry ∧ due s.announcer.beaconTimer) ∨
  (c = .joinWindowExpiry ∧ s.roster.mode = .joining ∧ due s.roster.joinWindow) ∨
  (c = .cooldownExpiry ∧ s.roster.mode = .isolated ∧ due s.roster.cooldown) ∨
  (c = .idleTimerExpiry ∧ due s.events.idleTimer) ∨
  (c = .evaluationCommit ∧ ∃ ev : Evaluation, s.engine.work.evaluation = some ev ∧ ev.due ≤ s.ticks) ∨
  (c = .lookupService ∧ ∃ (g : Fin 256) (hash : Half) (rest : List Request), s.lookup.requests = .lookup g hash :: rest) ∨
  (c = .takeService ∧ ∃ rest : List Request, s.lookup.requests = .take :: rest)

/-- The state with the frame in progress replaced. -/
def framed (s : State) (f : Frame) : State := { s with port := { s.port with frame := f } }

/-- What an edge at the management port's pins does in state `s` (R148, R149). -/
def EdgesAreTaken (s : State) : Prop :=
  (s.rstHeld = true →
    takePin .mcsFall s = .next (framed s .waiting) ∧ takePin .mcsRise s = .next (framed s .closed) ∧
    takePin .mckFall s = .next s ∧ ∀ mdi : Bool, takePin (.mckRise mdi) s = .next s) ∧
  (s.rstHeld = false →
    (s.port.frame = .closed → takePin .mcsFall s = .next (framed s (.opening [] []))) ∧
    (s.port.frame = .closed ∨ s.port.frame = .waiting →
      takePin .mcsRise s = .next (framed s .closed) ∧ takePin .mckFall s = .next s ∧
      ∀ mdi : Bool, takePin (.mckRise mdi) s = .next s) ∧
    (s.port.frame ≠ .closed → takePin .mcsFall s = .next s) ∧
    (∀ (bytes : List Byte) (bits : List Bool), s.port.frame = .opening bytes bits →
      takePin .mcsRise s = exec .frameDiscard s ∧ exec .frameDiscard s = .next (framed s .closed) ∧
      takePin .mckFall s = .next s ∧
      (∀ mdi : Bool, bits.length < 7 → takePin (.mckRise mdi) s = .next (framed s (.opening bytes (bits ++ [mdi])))) ∧
      ∀ (mdi : Bool) (b : Byte), bits ++ [mdi] = (List.range 8).map (fun k => b.getLsbD (7 - k)) →
        (∀ c : Instr, readFrame s.port.locked (bytes ++ [b]) = some c → takePin (.mckRise mdi) s = exec c s) ∧
        (readFrame s.port.locked (bytes ++ [b]) = none →
          takePin (.mckRise mdi) s = .next (framed s (.opening (bytes ++ [b]) [])))) ∧
    (∀ (reply : List Byte) (falls : Nat), s.port.frame = .taken reply falls →
      takePin .mcsRise s = .next (framed s .closed) ∧ takePin .mckFall s = .next (framed s (.taken reply (falls + 1))) ∧
      ∀ mdi : Bool, takePin (.mckRise mdi) s = .next s))

/-- Which command the bytes of a frame spell with the lock open or closed, the command byte first (R149, R151 to R162; 11). -/
def FramesSpellCommands : Prop :=
  (∀ locked : Bool, readFrame locked [] = none ∧
    (∀ (code : Byte) (rest : List Byte), commandCodes.contains code = false →
      readFrame locked (code :: rest) = some (.unknownCommand code)) ∧
    (∀ p ∈ [(5#8, Instr.start), (20#8, .leave), (21#8, .rejoin), (22#8, .restart), (32#8, .readStatus), (35#8, .readRoster)],
      readFrame locked [p.1] = some p.2) ∧
    (∀ b : Byte, ∀ p ∈ [(16#8, Instr.drain b), (17#8, .undrain b), (18#8, .release b), (19#8, .resteer b), (33#8, .readEvents b),
        (34#8, .readMap b), (36#8, .readGroup b)],
      readFrame locked [p.1] = none ∧ readFrame locked [p.1, b] = some p.2) ∧
    (∀ a b c : Byte, readFrame locked [23#8] = none ∧ readFrame locked [23#8, a] = none ∧
      readFrame locked [23#8, a, b] = some (.setEventReporting a b) ∧
      readFrame locked [37#8] = none ∧ readFrame locked [37#8, a] = none ∧ readFrame locked [37#8, a, b] = none ∧
      readFrame locked [37#8, a, b, c] = some (.probe a (b ++ c)))) ∧
  (∀ a b c d : Byte, (∀ k : Nat, k ≤ 4 → readFrame false ([1#8, a, b, c].take k) = none) ∧
    readFrame false [1#8, a, b, c, d] = some (.setStation (a ++ b) c d)) ∧
  (∀ a b c d e f g h i j : Byte, (∀ k : Nat, k ≤ 10 → readFrame false ([2#8, a, b, c, d, e, f, g, h, i].take k) = none) ∧
    readFrame false [2#8, a, b, c, d, e, f, g, h, i, j] =
      some (.setUplink ⟨a, b, c, d, e ++ f, g ++ h, i, j⟩)) ∧
  (∀ args : List Byte, readFrame false (3#8 :: args) =
    if readGroupFrame args = .incomplete then none else some (.writeGroup args)) ∧
  (∀ a : Byte, readFrame false [4#8] = none ∧ readFrame false [4#8, a] = some (.clearGroup a)) ∧
  (∀ code : Byte, code ∈ [1#8, 2#8, 3#8, 4#8] → ∀ s : State, s.rstHeld = false → s.port.locked = true →
    ∃ c : Instr, readFrame true [code] = some c ∧ exec c s = .next (answered s [1#8]))

/-- A table of codes of chapter 11. -/
def slotCodes : List (SlotState × Byte) := [(.unknown, 0#8), (.joining, 1#8), (.present, 2#8), (.silent, 3#8), (.excluded, 4#8)]

/-- The codes of the station modes (11). -/
def modeCodes : List (Mode × Byte) := [(.offline, 0#8), (.joining, 1#8), (.active, 2#8), (.quiet, 3#8), (.isolated, 4#8)]

/-- The codes of the map states (11). -/
def mapCodes : List (MapState × Byte) := [(.inService, 0#8), (.dark, 1#8), (.drained, 2#8), (.absent, 3#8)]

/-- The codes of the origins (11). -/
def originCodes : List (Origin × Byte) := [(.fromLocal, 0#8), (.fromNotice, 1#8), (.fromRoster, 2#8)]

/-- The codes of the detector states (11). -/
def detectorCodes : List (DetState × Byte) :=
  [(.disabled, 0#8), (.serving, 1#8), (.suspect, 2#8), (.dark, 3#8), (.recovering, 4#8), (.drained, 5#8)]

/-- The codes of the tiers (11). -/
def tierCodes : List (Tier × Byte) := [(.t1, 1#8), (.t2, 2#8), (.t3, 3#8)]

/-- The codes of the conditions (11). -/
def conditionCodes : List (Condition × Byte) := [(.unused, 0#8), (.full, 1#8), (.partly, 2#8), (.blackhole, 3#8)]

/-- An event record's 12 bytes: kind, time, subject, d0 to d4, and d5, which is 0 (11). -/
def recordBytes (kind : Byte) (time : Stamp) (subject d0 d1 d2 d3 d4 : Byte) : List Byte :=
  [kind, time.extractLsb' 24 8, time.extractLsb' 16 8, time.extractLsb' 8 8, time.extractLsb' 0 8, subject,
    d0, d1, d2, d3, d4, 0#8]

/-- The layout of the sixteen kinds of event record (11). -/
def EventLayout : Prop :=
  ∀ (t : Stamp) (x : Byte),
    let bytes (d : Detail) : List Byte := Event.bytes ⟨t, x, d⟩
    (∀ (c : FactorSet) (n : Nat), ∀ l ∈ detectorCodes,
      bytes (.uplinkDark c l.1 n) = recordBytes 1#8 t x (c.setWidth 8) l.2 (BitVec.ofNat 8 n) 0#8 0#8) ∧
    (∀ (c : FactorSet) (d : Stamp),
      bytes (.uplinkGlitch c d) = recordBytes 2#8 t x (c.setWidth 8) (d.extractLsb' 8 8) (d.extractLsb' 0 8) 0#8 0#8) ∧
    (∀ (c : FactorSet) (n : Nat) (a : Bool), bytes (.uplinkFlap c n a) =
      recordBytes 3#8 t x (c.setWidth 8) (BitVec.ofNat 8 n) (if a then 1#8 else 0#8) 0#8 0#8) ∧
    (∀ n : Nat, bytes (.uplinkAwaiting n) = recordBytes 4#8 t x 0#8 (BitVec.ofNat 8 n) 0#8 0#8 0#8 ∧
      bytes (.uplinkServing n .holdExpiry) = recordBytes 5#8 t x 0#8 (BitVec.ofNat 8 n) 0#8 0#8 0#8 ∧
      bytes (.uplinkServing n .release) = recordBytes 5#8 t x 0#8 (BitVec.ofNat 8 n) 1#8 0#8 0#8) ∧
    (∀ o ∈ mapCodes, ∀ n ∈ mapCodes, ∀ g ∈ originCodes, ∀ (e : Byte) (c : FactorSet),
      bytes (.peerUplink o.1 n.1 e c g.1) = recordBytes 6#8 t x o.2 n.2 e (c.setWidth 8) g.2) ∧
    (∀ (hi lo e : Byte), ∀ m ∈ mapCodes,
      bytes (.noticeUnconfirmed (hi ++ lo) m.1 e) = recordBytes 7#8 t x hi lo m.2 e 0#8) ∧
    (∀ k ∈ [(NoticeKind.alert, 0#8), (.update, 1#8), (.beacon, 2#8)],
      bytes (.peerDeaf k.1) = recordBytes 8#8 t x k.2 0#8 0#8 0#8 0#8) ∧
    (∀ l ∈ slotCodes, (∀ e ∈ slotCodes, bytes (.peerJoined l.1 e.1) = recordBytes 9#8 t x l.2 e.2 0#8 0#8 0#8) ∧
      (∀ hi lo : Byte, bytes (.peerExcluded l.1 (hi ++ lo)) = recordBytes 10#8 t x l.2 hi lo 0#8 0#8) ∧
      bytes (.peerSilent l.1) = recordBytes 11#8 t x l.2 0#8 0#8 0#8 0#8) ∧
    (∀ o ∈ modeCodes, ∀ n ∈ modeCodes,
      ∀ c ∈ [(ModeCause.host, 0#8), (.fault, 1#8), (.cooldown, 2#8), (.joinDone, 3#8), (.reset, 4#8)],
      bytes (.modeChange o.1 n.1 c.1) = recordBytes 12#8 t x o.2 n.2 c.2 0#8 0#8) ∧
    (∀ o ∈ tierCodes, bytes (.groupBlackhole o.1) = recordBytes 14#8 t x o.2 0#8 3#8 0#8 0#8 ∧ ∀ c ∈ conditionCodes,
      bytes (.groupRestored o.1 c.1) = recordBytes 15#8 t x 0#8 o.2 c.2 0#8 0#8 ∧
      ∀ n ∈ tierCodes, bytes (.groupTier o.1 n.1 c.1) = recordBytes 13#8 t x o.2 n.2 c.2 0#8 0#8) ∧
    (∀ n : Nat, bytes (.invalidationFlush n) = recordBytes 16#8 t x (BitVec.ofNat 8 n) 0#8 0#8 0#8 0#8)

/-- READ MAP's 8 bytes for one entry: the id; state in bits 1 and 0, origin in bits 3 and 2, mark in bit 7; epoch; cause; time
(11). -/
def EntryLayout : Prop :=
  ∀ (u : Fin 64) (e : MapEntry), ∀ m ∈ mapCodes, ∀ o ∈ originCodes, e.state = m.1 → e.origin = o.1 →
    entryBytes u e = [BitVec.ofNat 8 u.val, m.2 + 4#8 * o.2 + (if e.mark then 128#8 else 0#8), e.epoch, e.cause.setWidth 8,
      e.time.extractLsb' 24 8, e.time.extractLsb' 16 8, e.time.extractLsb' 8 8, e.time.extractLsb' 0 8]

/-- READ ROSTER's 5 bytes for one slot: the own slot gives 7, the mode and zeros; a peer's its state, miss count, marks (bit 0
deaf, bit 1 joined-me, bit 2 fingerprint present) and foreign fingerprint, 0 where there is none (11, R98). -/
def SlotLayout : Prop :=
  ∀ (mode : Mode) (x : Slot),
    (∀ m ∈ modeCodes, mode = m.1 → x.state = .self → slotBytes mode x = [7#8, m.2, 0#8, 0#8, 0#8]) ∧
    (∀ p ∈ slotCodes, x.state = p.1 → ∀ hi lo : Byte, x.foreign.getD 0#16 = hi ++ lo →
      slotBytes mode x = [p.2, BitVec.ofNat 8 x.misses,
        (if x.deaf then 1#8 else 0#8) + (if x.joinedMe then 2#8 else 0#8) + (if x.foreign.isSome then 4#8 else 0#8), hi, lo])

/-- A member's or a bucket's byte: its uplink id, or FFh where it holds none (R173). -/
def placeByte (u : Option (Fin 64)) : Byte :=
  match u with
  | some u => BitVec.ofNat 8 u.val
  | none => 255#8

/-- READ GROUP's 63 bytes (11). -/
def GroupLayout : Prop :=
  ∀ (r : Group), ∀ c ∈ conditionCodes, r.condition = c.1 →
    ∀ p ∈ [((none : Option Tier), 0#8), (some .t1, 1#8), (some .t2, 2#8), (some .t3, 3#8)], r.current = p.1 →
    let member (t : Tier) (k : Fin 8) : Byte := placeByte (r.members t)[k.val]?
    r.bytes = [if r.configured then 1#8 else 0#8, if r.revert = .sticky then 1#8 else 0#8, p.2, c.2,
        BitVec.ofNat 8 (r.members .t1).length, BitVec.ofNat 8 (r.members .t2).length, BitVec.ofNat 8 (r.members .t3).length] ++
      List.ofFn (member .t1) ++ List.ofFn (member .t2) ++ List.ofFn (member .t3) ++
      List.ofFn (fun b : Fin 32 => placeByte (r.buckets.get b))

/-- Fields 2 to 7 of a notice in the order sent, each most significant bit first, and the CRC formed over them (R46, R171). -/
def NoticeLayout : Prop :=
  (∀ (kind : BitVec 2) (sender : Fin 16) (join : Bool) (count : BitVec 2) (fingerprint : Half) (records : List Record),
    let bit (n k : Nat) : Bool := n.testBit k
    let field (width n : Nat) : List Bool := (List.range width).map fun k => bit n (width - 1 - k)
    let stateCode (m : MapState) : Nat :=
      match m with
      | .inService => 0
      | .dark => 1
      | .drained => 2
      | .absent => 3
    noticeBits kind sender join count fingerprint records =
      field 2 kind.toNat ++ field 4 sender.val ++ [join] ++ field 2 count.toNat ++ field 16 fingerprint.toNat ++
        records.flatMap fun r => field 2 r.index.val ++ field 2 (stateCode r.state) ++ field 8 r.epoch.toNat ++ field 3 r.cause.toNat) ∧
  crcOf [] = 0xFFFF#16 ∧
  (∀ (bits : List Bool) (b : Bool), crcOf (bits ++ [b]) =
    if (crcOf bits).getLsbD 15 != b then (crcOf bits <<< 1) ^^^ 0x1021#16 else crcOf bits <<< 1) ∧
  ∀ n : RxNotice, n.crcComputed = crcOf (noticeBits n.kind n.sender n.join n.count n.fingerprint n.records) ∧
    n.records = [n.r0, n.r1, n.r2, n.r3].take (n.count.toNat + 1)

/-- The order of the ring says which dirty uplink comes first (R128). -/
def ChosenUplink (s : State) (u : Fin 64) : Prop :=
  s.engine.dirty.get u = true ∧
  ∃ above below : List (Fin 64), s.engine.ring = above ++ u :: below ∧
    if s.usable u then
      (∀ v ∈ above, s.engine.dirty.get v = false) ∧ ∀ v ∈ s.engine.ring, s.engine.dirty.get v = true → s.usable v = true
    else ∀ v ∈ above, s.engine.dirty.get v = true → s.usable v = true

end Sys2Proof.Machine

open Sys2Proof Sys2Proof.Machine

/-! ### The queue and the clock -/

/-- A step takes the command at the front of the queue and runs it with the queue's rest. -/
def Obligations.StepTakesTheFrontCommand : Prop :=
  ∀ (c : Instr) (s : State) (rest : List Instr), s.pending = c :: rest → step s = exec c { s with pending := rest }

/-- Every command answers a next state. None touches the queue of commands, the waiting edges or the count of free choices, and
only FULL_RESET moves the clock or the station code: that queued commands take no time, and the queues and the count themselves,
are the model's choice (log 1, log 2, log 29). -/
def Obligations.EveryCommandAnswersANextState : Prop :=
  ∀ (c : Instr) (s : State), ∃ t : State, exec c s = .next t ∧ t.pending = s.pending ∧ t.pins = s.pins ∧ t.drawn = s.drawn ∧
    ((∀ straps : Fin 16, c ≠ .fullReset straps) → t.ticks = s.ticks ∧ t.station.code = s.station.code)

/-- With no command waiting, the part takes the edge that waits first at the management port (log 29); with no edge waiting it
takes one of its own events that are due, and its clock moves on when none is: the model's choice (log 1, log 2). The events due
are the running timers at or past their ends, the commit at its end, an offer and the service of the oldest request, and none
while RST is held (log 7). An edge moves the frame, and takes the command that the frame's bytes spell. -/
def Obligations.IdleStepTakesAnOwnEventOrTicks : Prop :=
  ∀ s : State,
    (s.pending = [] →
      (∀ (edge : PortPin) (rest : List PortPin), s.pins = edge :: rest → step s = takePin edge { s with pins := rest }) ∧
      (s.pins = [] →
        (s.ownEvents = [] → step s = .next { s with ticks := if s.rstHeld then s.ticks else s.ticks + 1 }) ∧
        (∀ c : Instr, s.ownEvents = [c] → step s = exec c s) ∧
        (2 ≤ s.ownEvents.length → ∃ c ∈ s.ownEvents, step s = exec c { s with drawn := s.drawn + 1 }))) ∧
    (s.rstHeld = true → s.ownEvents = []) ∧
    (s.rstHeld = false → ∀ c : Instr, c ∈ s.ownEvents ↔ DueEvent s c) ∧
    EdgesAreTaken s

/-! ### Reset, RST and frames -/

/-- FULL_RESET gives every block its full reset values. The straps are the command's operand, the condition lines keep their
levels (log 6), and so does MCS, which the port waits to rise where it is low. -/
def Obligations.FullResetGivesEveryResetValue : Prop :=
  ∀ (straps : Fin 16) (s : State), ∃ t : State, exec (.fullReset straps) s = .next t ∧
    (t.pending = s.pending ∧ t.pins = s.pins ∧ t.drawn = s.drawn ∧ t.rstHeld = true ∧ t.ticks = 0 ∧
      t.station = ⟨straps, 0#16, .ms2, 3⟩) ∧
    (∀ u : Fin 64, t.map.get u = ⟨.absent, 0#8, .fromRoster, 0#3, false, 0#32⟩) ∧
    (∀ i : Fin 4, t.detectors.get i =
      { losLine := (s.detectors.get i).losLine, lockLine := (s.detectors.get i).lockLine
        config := ⟨false, 6#3, .us100, 10, 1000, 8, .auto⟩
        state := .disabled, awaiting := false, failing := 0#3, lastPulse := none, watchdog := none, qualify := none
        suspect := none, hold := none, level := 0, stability := none }) ∧
    (t.lane.tx = .idle ∧ t.lane.rx = .off ∧ t.lane.captured = none ∧ t.lane.tally = none ∧ t.lane.abortEnd = none ∧
      t.lane.faults = 0 ∧ t.lane.flags = ⟨false, false, false, false, false⟩) ∧
    ((∀ i : Fin 4, t.announcer.entries.get i = ⟨.clean, 0, 0#8, 0#16⟩) ∧ t.announcer.beaconTimer = none ∧
      t.announcer.beaconDue = false) ∧
    ((∀ k : Fin 16, t.roster.slots.get k = ⟨if k = straps then .self else .unknown, none, 0, false, false, none⟩) ∧
      t.roster.mode = .offline ∧ t.roster.joinWindow = none ∧ t.roster.windowElapsed = false ∧ t.roster.cooldown = none) ∧
    (∀ g : Fin 256, t.groups.get g = unconfigured) ∧
    ((∀ u : Fin 64, t.engine.dirty.get u = false ∧ t.engine.index.get u = []) ∧ t.engine.work = .idle ∧
      t.engine.ring = List.ofFn (fun u => u) ∧ ∀ g : Fin 256, t.engine.resteers.get g = false) ∧
    t.lookup.requests = [] ∧ t.invalidation = ⟨[], false⟩ ∧ t.port.locked = false ∧
    t.port.frame = (if s.port.frame = .closed then .closed else .waiting) ∧
    (t.events.records = [] ∧ t.events.overflow = false ∧ t.events.idleTimer = none ∧ t.events.idleExpired = false ∧
      t.events.trigger = .one ∧ t.events.idleTimeout = 20#8)

/-- The state after reset is what FULL_RESET with straps 0 and RST_RELEASE make of a part whose condition lines are low and
whose MCS is high, and it keeps every law: straps, levels and a released RST are the model's choice (log 6). -/
def Obligations.ResetStateIsAFullResetReleased : Prop :=
  (∀ s t : State, s.pending = [] → s.pins = [] → s.drawn = 0 → s.port.frame = .closed →
    (∀ i : Fin 4, (s.detectors.get i).losLine = false ∧ (s.detectors.get i).lockLine = false) →
    exec (.fullReset 0) s = .next t → exec .rstRelease t = .next State.reset) ∧
  WithinBounds State.reset ∧ InvalidationLaw State.reset ∧ LockLaw State.reset ∧ OfflineLaw State.reset ∧
  HeldLaw State.reset ∧ SelfLaw State.reset ∧ ImageLaw State.reset ∧ AbsenceLaw State.reset ∧ DetectorLaw State.reset ∧
  AnnounceLaw State.reset ∧ LaneLaw State.reset ∧ TimerLaw State.reset ∧ EngineLaw State.reset ∧ FrameLaw State.reset ∧
  SteeringInv State.reset

/-- While RST is held LKRDY, INV_PEND and IRQ are released, MDO is released, and both ports take nothing; RST_RELEASE ends that
and raises LKRDY on an empty request order. Once RST is released the outputs follow the state: LKRDY the request order, INV_PEND
the invalidation queue, IRQ the count, the latch and the overflow flag, MDO the frame: the filler's bits, and from the first
falling edge of MCK after the command is taken the reply's bits, one for each falling edge (released outside a frame: log 11). -/
def Obligations.HeldPartTakesNothingUntilRelease : Prop :=
  (∀ s : State, s.rstHeld = true →
    s.lkrdy = false ∧ s.invPend = false ∧ s.irq = false ∧ s.mdo = none ∧
    (∀ w : BitVec 24, exec (.lookupRequest w) s = .next s) ∧ exec .takeRequest s = .next s ∧
    (∀ c : Instr, c ∈ [Instr.frameDiscard, .start, .leave, .rejoin, .restart, .readStatus, .readRoster] → exec c s = .next s) ∧
    (∀ b : Byte, ∀ c : Instr, c ∈ [Instr.unknownCommand b, .clearGroup b, .drain b, .undrain b, .release b, .resteer b,
      .readEvents b, .readMap b, .readGroup b] → exec c s = .next s) ∧
    (∀ (h : Half) (a b : Byte) (args : UplinkArgs) (bytes : List Byte), ∀ c : Instr,
      c ∈ [Instr.setStation h a b, .setUplink args, .writeGroup bytes, .setEventReporting a b, .probe a h] →
        exec c s = .next s) ∧
    exec .rstRelease s = .next { s with rstHeld := false } ∧
    (s.lookup.requests = [] → ({ s with rstHeld := false } : State).lkrdy = true)) ∧
  (∀ s : State, s.rstHeld = false →
    (s.lkrdy = true ↔ s.lookup.requests.length < 4) ∧
    (s.invPend = true ↔ s.invalidation.ids ≠ [] ∨ s.invalidation.flushAll = true) ∧
    (∀ p : TriggerLevel × Nat, p ∈ [(TriggerLevel.one, 1), (.four, 4), (.eight, 8), (.sixteen, 16)] →
      s.events.trigger = p.1 →
      (s.irq = true ↔ p.2 ≤ s.events.records.length ∨ s.events.idleExpired = true ∨ s.events.overflow = true)) ∧
    (s.port.frame = .closed ∨ s.port.frame = .waiting → s.port.frame.phase = none ∧ s.mdo = none) ∧
    (∀ (bytes : List Byte) (bits : List Bool), s.port.frame = .opening bytes bits → bits.length < 8 →
      s.port.frame.phase = some (if bytes = [] then .command else .arguments) ∧ s.mdo = some true) ∧
    (∀ reply : List Byte,
      (s.port.frame = .taken reply 0 → s.port.frame.phase = some .reply ∧ s.mdo = some true) ∧
      ∀ k : Nat, s.port.frame = .taken reply (k + 1) →
        (∀ b : Byte, reply[k / 8]? = some b → s.port.frame.phase = some .reply ∧ s.mdo = some (b.getLsbD (7 - k % 8))) ∧
        (8 * reply.length ≤ k → s.port.frame.phase = some .done ∧ s.mdo = some true)))

/-- Refused commands change nothing and give their code: an unknown code, the closed lock, a local index out of range, a mode
that does not allow the command, an unconfigured group; a discarded frame gives no status and ends. Which command a frame's
bytes spell, by its code and its arguments, is said with them: a code that names none is an unknown command, and with the lock
closed a configuration command is taken at its command byte. -/
def Obligations.RefusedCommandsChangeNothing : Prop :=
  (∀ (s : State) (h : Half) (a b : Byte) (args : UplinkArgs) (bytes : List Byte), s.rstHeld = false →
    exec .frameDiscard s = .next { s with port := { s.port with frame := .closed } } ∧
    (commandCodes.contains b = false → exec (.unknownCommand b) s = .next (answered s [4#8])) ∧
    (s.port.locked = true → ∀ c ∈ [Instr.setStation h a b, .setUplink args, .writeGroup bytes, .clearGroup a],
      exec c s = .next (answered s [1#8])) ∧
    (4 ≤ b.toNat → ∀ c ∈ [Instr.drain b, .undrain b, .release b], exec c s = .next (answered s [4#8])) ∧
    (s.roster.mode = .offline → b.toNat < 4 → ∀ c ∈ [Instr.drain b, .undrain b, .release b],
      exec c s = .next (answered s [2#8])) ∧
    (s.roster.mode = .offline → ∀ c ∈ [Instr.resteer b, .leave, .rejoin, .restart], exec c s = .next (answered s [2#8])) ∧
    (s.roster.mode ≠ .offline → exec .start s = .next (answered s [2#8])) ∧
    (s.roster.mode = .joining ∨ s.roster.mode = .active → exec .rejoin s = .next (answered s [2#8])) ∧
    (s.roster.mode ≠ .offline → (s.groups.get b.toFin).configured = false →
      exec (.resteer b) s = .next (answered s [4#8]))) ∧
  FramesSpellCommands

/-! ### Configuration -/

/-- SET STATION: refused with LOCKED while the lock is closed, with BAD_ARGUMENT for a period or a silence count that is none;
otherwise all three settings are replaced at once. Its frame is command code 1 and four argument bytes. -/
def Obligations.SetStationReplacesThreeSettings : Prop :=
  (∀ (s : State) (fingerprint : Half) (period silence : Byte), s.rstHeld = false →
    (s.port.locked = true → exec (.setStation fingerprint period silence) s = .next (answered s [1#8])) ∧
    (s.port.locked = false →
      (5 < period.toNat ∨ silence.toNat < 2 ∨ 8 < silence.toNat →
        exec (.setStation fingerprint period silence) s = .next (answered s [4#8])) ∧
      ∀ p : Byte × BeaconPeriod,
        p ∈ [(0#8, BeaconPeriod.ms0p5), (1#8, .ms1), (2#8, .ms2), (3#8, .ms4), (4#8, .ms8), (5#8, .ms16)] →
        2 ≤ silence.toNat → silence.toNat ≤ 8 →
        exec (.setStation fingerprint p.1 silence) s =
          .next (answered { s with station := ⟨s.station.code, fingerprint, p.2, silence.toNat⟩ } [0#8]))) ∧
  ∀ a b c d : Byte, readFrame false [1#8, a, b, c, d] = some (.setStation (a ++ b) c d)

/-- SET UPLINK: refused with LOCKED while the lock is closed, with BAD_ARGUMENT for an argument out of its field; otherwise all
seven fields of one detector are replaced at once, and the detector's state is left as it is. Its frame is command code 2 and ten
argument bytes. -/
def Obligations.SetUplinkReplacesSevenFields : Prop :=
  (∀ (s : State) (a : UplinkArgs), s.rstHeld = false →
    (s.port.locked = true → exec (.setUplink a) s = .next (answered s [1#8])) ∧
    (s.port.locked = false →
      (¬ ValidUplink a → exec (.setUplink a) s = .next (answered s [4#8])) ∧
      (ValidUplink a → ∀ i : Fin 4, i.val = a.index.toNat →
        ∀ q : Byte × QualifyTime, q ∈ [(0#8, QualifyTime.us0), (1#8, .us25), (2#8, .us100), (3#8, .us400)] → q.1 = a.tq →
        exec (.setUplink a) s = .next (answered { s with detectors := s.detectors.set i { s.detectors.get i with
          config := ⟨a.enabled == 1#8, a.mask.setWidth 3, q.2, a.hbMin.toNat, a.hbMax.toNat, a.n.toNat,
            if a.clearMode = 1#8 then .held else .auto⟩ } } [0#8])))) ∧
  ∀ a b c d e f g h i j : Byte, readFrame false [2#8, a, b, c, d, e, f, g, h, i, j] =
    some (.setUplink ⟨a, b, c, d, e ++ f, g ++ h, i, j⟩)

/-- An accepted WRITE GROUP stores the definition with its steering in BLACKHOLE and enters it in the member index. -/
def Obligations.WriteGroupDefinesTheGroup : Prop :=
  ∀ (s : State) (g : Byte) (sticky : Bool) (tiers : List (List (Fin 64))), s.rstHeld = false → s.port.locked = false →
    TierShape tiers → tiers.flatten.Nodup → referencesAfter s g.toFin tiers.flatten.length ≤ 4096 →
    ∃ t : State,
      exec (.writeGroup (groupArgs g (if sticky then 1#8 else 0#8) (tiers.map fun m => m.map idByte))) s = .next t ∧
      t.groups = s.groups.set g.toFin
        ⟨true, if sticky then .sticky else .revertive, tiers, none, .fill none, .blackhole⟩ ∧
      (∀ (u : Fin 64) (h : Fin 256), h ∈ t.engine.index.get u ↔
        (h = g.toFin ∧ u ∈ tiers.flatten) ∨ (h ≠ g.toFin ∧ h ∈ s.engine.index.get u)) ∧
      (∀ u : Fin 64, (s.engine.index.get u).Pairwise (fun a b => a.val < b.val) →
        (t.engine.index.get u).Pairwise (fun a b => a.val < b.val)) ∧
      t = { s with
        groups := t.groups, engine := { s.engine with index := t.engine.index }
        port := { s.port with frame := .taken [0#8] 0 } }

/-- WRITE GROUP with the lock open is refused, with nothing changed, on each of grounds 2 to 6; cut short before its last
argument byte it is a discarded frame (log 12). -/
def Obligations.WriteGroupRefusals : Prop :=
  ∀ (s : State) (g revert : Byte), s.rstHeld = false → s.port.locked = false →
    (∀ rest : List Byte, 1 < revert.toNat → exec (.writeGroup (g :: revert :: rest)) s = .next (answered s [4#8])) ∧
    (∀ (count : Byte) (rest : List Byte), revert.toNat ≤ 1 → count.toNat = 0 ∨ 3 < count.toNat →
      exec (.writeGroup (g :: revert :: count :: rest)) s = .next (answered s [4#8])) ∧
    (∀ (count bad : Byte) (before : List (List Byte)) (rest : List Byte), revert.toNat ≤ 1 →
      1 ≤ count.toNat → count.toNat ≤ 3 → before.length < count.toNat →
      (∀ m ∈ before, 1 ≤ m.length ∧ m.length ≤ 8) → bad.toNat = 0 ∨ 8 < bad.toNat →
      exec (.writeGroup (g :: revert :: count :: (before.flatMap tierArgs ++ bad :: rest))) s = .next (answered s [4#8])) ∧
    (∀ tiers : List (List Byte), revert.toNat ≤ 1 → TierShape tiers →
      (∃ m ∈ tiers.flatten, 64 ≤ m.toNat) ∨ ¬ tiers.flatten.Nodup →
      exec (.writeGroup (groupArgs g revert tiers)) s = .next (answered s [4#8])) ∧
    (∀ tiers : List (List (Fin 64)), revert.toNat ≤ 1 → TierShape tiers → tiers.flatten.Nodup →
      4096 < referencesAfter s g.toFin tiers.flatten.length →
      exec (.writeGroup (groupArgs g revert (tiers.map fun m => m.map idByte))) s = .next (answered s [5#8])) ∧
    (∀ (tiers : List (List Byte)) (cut : Nat), revert.toNat ≤ 1 → TierShape tiers →
      cut < (groupArgs g revert tiers).length →
      exec (.writeGroup ((groupArgs g revert tiers).take cut)) s =
        .next { s with port := { s.port with frame := .closed } })

/-- CLEAR GROUP with the lock open gives the record its unconfigured values and takes the group out of every list. -/
def Obligations.ClearGroupForgetsTheGroup : Prop :=
  ∀ (s : State) (g : Byte), s.rstHeld = false → s.port.locked = false →
    ∃ t : State, exec (.clearGroup g) s = .next t ∧
      t.groups = s.groups.set g.toFin unconfigured ∧
      (∀ u : Fin 64, t.engine.index.get u = (s.engine.index.get u).filter (· ≠ g.toFin)) ∧
      t = { s with
        groups := t.groups, engine := { s.engine with index := t.engine.index }
        port := { s.port with frame := .taken [0#8] 0 } }

/-- START in OFFLINE takes the station to JOINING with every block at its START values and the lock closed. -/
def Obligations.StartTakesTheStationToJoining : Prop :=
  ∀ s : State, s.rstHeld = false → s.roster.mode = .offline →
    ∃ t : State, exec .start s = .next t ∧ StartingValues s t ∧ t.lane.tx = .idle ∧ t.lane.abortEnd = none ∧
      t.port = ⟨true, .taken [0#8] 0⟩ ∧
      t.events = (s.push (idByte s.station.code) (.modeChange .offline .joining .host)).events

/-- RESTART outside OFFLINE takes the station to JOINING with every block at its RESTART values; a SENDING transmitter drives
an abort pattern that ends with no outcome (log 22). -/
def Obligations.RestartStartsTheStationAfresh : Prop :=
  ∀ s : State, s.rstHeld = false → s.roster.mode ≠ .offline →
    ∃ t : State, exec .restart s = .next t ∧ StartingValues s t ∧
      t.lane.tx = (match s.lane.tx with
        | .sending | .aborting => .aborting
        | .idle | .arbitrating | .closing => .idle) ∧
      (s.lane.tx = .sending → t.lane.abortEnd = some (s.ticks + 8)) ∧
      (s.lane.tx = .aborting → t.lane.abortEnd = s.lane.abortEnd) ∧
      t.port = ⟨s.port.locked, .taken [0#8] 0⟩ ∧
      t.events = (s.push (idByte s.station.code) (.modeChange s.roster.mode .joining .reset)).events

/-! ### Operating commands -/

/-- DRAIN and UNDRAIN outside OFFLINE, by the detector's state; UNDRAIN judges the factors as they stand. -/
def Obligations.DrainAndUndrainByDetectorState : Prop :=
  ∀ (s : State) (i : Fin 4), s.rstHeld = false → s.roster.mode ≠ .offline →
    ((s.detectors.get i).state = .disabled → exec (.drain (idByte i)) s = .next (answered s [3#8])) ∧
    ((s.detectors.get i).state = .drained → exec (.drain (idByte i)) s = .next (answered s [0#8])) ∧
    ((s.detectors.get i).state ≠ .disabled → (s.detectors.get i).state ≠ .drained →
      exec (.drain (idByte i)) s = .next (answered (ownClaim s i
        { s.detectors.get i with
          state := .drained, awaiting := false, qualify := none, suspect := none, hold := none, stability := none }
        .drained 0#3) [0#8])) ∧
    ((s.detectors.get i).state ≠ .drained → exec (.undrain (idByte i)) s = .next (answered s [3#8])) ∧
    ((s.detectors.get i).state = .drained → (s.detectors.get i).failing = 0#3 →
      exec (.undrain (idByte i)) s =
        .next (answered (ownClaim s i (recoveringFrom s.ticks (s.detectors.get i)) .dark 0#3) [0#8])) ∧
    ((s.detectors.get i).state = .drained → (s.detectors.get i).failing ≠ 0#3 →
      exec (.undrain (idByte i)) s =
        .next (answered (ownClaim s i { s.detectors.get i with state := .dark } .dark (s.detectors.get i).failing) [0#8]))

/-- RELEASE outside OFFLINE, by the clear mode and the detector's state. -/
def Obligations.ReleaseReturnsAnAwaitingUplink : Prop :=
  ∀ (s : State) (i : Fin 4), s.rstHeld = false → s.roster.mode ≠ .offline →
    ((s.detectors.get i).config.clearMode = .auto ∨ (s.detectors.get i).state ≠ .recovering →
      exec (.release (idByte i)) s = .next (answered s [7#8])) ∧
    ((s.detectors.get i).config.clearMode = .held → (s.detectors.get i).state = .recovering →
      ((s.detectors.get i).awaiting = false → exec (.release (idByte i)) s = .next (answered s [6#8])) ∧
      ((s.detectors.get i).awaiting = true →
        exec (.release (idByte i)) s = .next (answered (servingEntered s i .release) [0#8])))

/-- RESTEER of a configured group outside OFFLINE: the group joins the resteer set, and an idle engine selects at once. -/
def Obligations.ResteerQueuesAConfiguredGroup : Prop :=
  ∀ (s : State) (g : Byte), s.rstHeld = false → s.roster.mode ≠ .offline → (s.groups.get g.toFin).configured = true →
    let queued : State := { s with engine := { s.engine with resteers := s.engine.resteers.set g.toFin true } }
    exec (.resteer g) s = .next (answered queued.select [0#8]) ∧
    (s.engine.work ≠ .idle → exec (.resteer g) s = .next (answered queued [0#8]))

/-- LEAVE: WRONG_MODE is stated elsewhere; QUIET finds nothing to do; any other mode goes to QUIET with the lane released,
the own tally slot with it, and the quiet gap counted anew (log 8). -/
def Obligations.LeaveReleasesTheLane : Prop :=
  ∀ s : State, s.rstHeld = false →
    (s.roster.mode = .quiet → exec .leave s = .next (answered s [0#8])) ∧
    (s.roster.mode = .joining ∨ s.roster.mode = .active ∨ s.roster.mode = .isolated →
      ∃ t : State, exec .leave s = .next t ∧
        t.lane = (if s.lane.tx = .idle then { s.lane with slotPermitted := false } else { s.lane with
          tx := .idle, captured := none, tally := none, abortEnd := none, slotPermitted := false, gapEnd := recounted s }) ∧
        Silenced s.announcer t.announcer ∧
        t = { s with
          lane := t.lane
          announcer := t.announcer
          roster := { s.roster with mode := .quiet, joinWindow := none, cooldown := none }
          events := (s.push (idByte s.station.code) (.modeChange s.roster.mode .quiet .host)).events
          port := { s.port with frame := .taken [0#8] 0 } })

/-- REJOIN in QUIET or ISOLATED and the end of the cool-down in ISOLATED have the effects of an entry to JOINING. -/
def Obligations.RejoinAndCooldownEnterJoining : Prop :=
  ∀ s : State,
    (s.rstHeld = false → s.roster.mode = .quiet ∨ s.roster.mode = .isolated →
      exec .rejoin s = .next (answered (joiningEntered s .host) [0#8])) ∧
    (s.roster.mode = .isolated → s.roster.cooldown.isSome = true →
      exec .cooldownExpiry s = .next (joiningEntered s .cooldown))

/-- SET EVENT REPORTING replaces both settings in every mode and starts or stops the idle timer, or is refused. -/
def Obligations.SetEventReportingReplacesBothSettings : Prop :=
  ∀ (s : State) (timeout : Byte), s.rstHeld = false →
    (∀ trigger : Byte, trigger ∉ [1#8, 4#8, 8#8, 16#8] →
      exec (.setEventReporting trigger timeout) s = .next (answered s [4#8])) ∧
    ∀ p : Byte × TriggerLevel, p ∈ [(1#8, TriggerLevel.one), (4#8, .four), (8#8, .eight), (16#8, .sixteen)] →
      exec (.setEventReporting p.1 timeout) s = .next (answered { s with events := { s.events with
        trigger := p.2
        idleTimeout := timeout
        idleTimer := if s.events.records = [] ∨ timeout = 0#8 then none else some (s.ticks + timeout.toNat * 2000) } } [0#8])

/-! ### Read commands -/

/-- READ STATUS replies with mode, flags, fault count and event count, and clears the lane flags and the overflow flag. -/
def Obligations.ReadStatusRepliesAndClearsFlags : Prop :=
  ∀ s : State, s.rstHeld = false →
    ∃ mode flags : Byte,
      (s.roster.mode, mode) ∈ [(Mode.offline, 0#8), (.joining, 1#8), (.active, 2#8), (.quiet, 3#8), (.isolated, 4#8)] ∧
      (∀ b : Nat × Bool, b ∈ [(0, s.lane.flags.crcError), (1, s.lane.flags.formatError), (2, s.lane.flags.abortSeen),
        (3, s.lane.flags.fingerprintMismatch), (4, s.lane.flags.txFault), (5, s.events.overflow), (6, s.port.locked),
        (7, false)] → flags.getLsbD b.1 = b.2) ∧
      exec .readStatus s = .next (answered { s with
        lane := { s.lane with flags := ⟨false, false, false, false, false⟩ }
        events := { s.events with overflow := false } }
        [0#8, mode, flags, BitVec.ofNat 8 s.lane.faults, BitVec.ofNat 8 s.events.records.length])

/-- READ EVENTS pops up to n records, oldest first, clears the latch and restarts or stops the idle timer; a count out of
range is refused. Its frame is command code 33 and n. The records of all sixteen kinds have the layout of chapter 11. -/
def Obligations.ReadEventsPopsTheOldest : Prop :=
  (∀ (s : State) (n : Byte), s.rstHeld = false →
    (n.toNat = 0 ∨ 8 < n.toNat → exec (.readEvents n) s = .next (answered s [4#8])) ∧
    (1 ≤ n.toNat → n.toNat ≤ 8 → s.events.records = [] → exec (.readEvents n) s = .next (answered s [0#8, 0#8])) ∧
    (1 ≤ n.toNat → n.toNat ≤ 8 → s.events.records ≠ [] →
      exec (.readEvents n) s = .next (answered { s with events := { s.events with
        records := s.events.records.drop n.toNat
        idleExpired := false
        idleTimer :=
          if s.events.records.length ≤ n.toNat ∨ s.events.idleTimeout = 0#8 then none
          else some (s.ticks + s.events.idleTimeout.toNat * 2000) } }
        (0#8 :: BitVec.ofNat 8 (min n.toNat s.events.records.length) ::
          (s.events.records.take n.toNat).flatMap Event.bytes)))) ∧
  (∀ (locked : Bool) (n : Byte), readFrame locked [33#8, n] = some (.readEvents n)) ∧
  EventLayout

/-- READ MAP returns the entries named as they stand and clears their change marks; a value that names none is refused. Its
frame is command code 34 and that value. An entry has the layout of chapter 11. -/
def Obligations.ReadMapReturnsAndClearsMarks : Prop :=
  (∀ s : State, s.rstHeld = false →
    (∀ b : Byte, 64 ≤ b.toNat → b ≠ 255#8 → exec (.readMap b) s = .next (answered s [4#8])) ∧
    (∀ u : Fin 64, exec (.readMap (idByte u)) s = .next (answered
      { s with map := s.map.set u { s.map.get u with mark := false } } (0#8 :: entryBytes u (s.map.get u)))) ∧
    exec (.readMap 255#8) s = .next (answered { s with map := .tabulate fun u => { s.map.get u with mark := false } }
      (0#8 :: (List.ofFn fun u : Fin 64 => entryBytes u (s.map.get u)).flatten))) ∧
  (∀ (locked : Bool) (value : Byte), readFrame locked [34#8, value] = some (.readMap value)) ∧
  EntryLayout

/-- READ ROSTER answers with the five bytes of each of the sixteen slots in ascending code, READ GROUP with the 63 bytes of the
whole record, in every state with RST released, and both change nothing else. The bytes are those of chapter 11: the own slot 7,
mode, 0, 0, 0; a peer's slot its state, misses, marks and fingerprint; a record its configured mark, revert mode, current tier,
condition, three member counts, 24 members and 32 buckets. -/
def Obligations.ReadRosterAndReadGroupChangeNothing : Prop :=
  (∀ (s : State) (g : Byte), s.rstHeld = false →
    exec .readRoster s = .next (answered s
      (0#8 :: (List.ofFn fun k : Fin 16 => slotBytes s.roster.mode (s.roster.slots.get k)).flatten)) ∧
    exec (.readGroup g) s = .next (answered s (0#8 :: (s.groups.get g.toFin).bytes))) ∧
  SlotLayout ∧ GroupLayout

/-- A lookup served answers by the mode and the record, and a PROBE in every state with RST released, whatever the request order
holds, answers the same: NOT_READY, DROP_UNUSED, DROP_BLACKHOLE, or OK with the uplink of bucket (hash mod 32) and the current
tier. The service takes its request out of the order and drives LKA; neither changes anything else but the port's reply. -/
def Obligations.LookupAndProbeAnswerFromTheTable : Prop :=
  ∀ (s : State) (g : Byte) (hash : Half),
    let r := s.groups.get g.toFin
    let bucket : Fin 32 := ⟨hash.toNat % 32, Nat.mod_lt _ (by omega)⟩
    let answers (word : Half) (reply : List Byte) : Prop :=
      (∀ rest : List Request, s.lookup.requests = .lookup g.toFin hash :: rest →
        exec .lookupService s = .next { s with lookup := ⟨rest, some word⟩ }) ∧
      (s.rstHeld = false → exec (.probe g hash) s = .next (answered s (0#8 :: reply)))
    (s.roster.mode = .offline → answers 0x6000#16 [3#8, 0xFF#8, 0#8]) ∧
    (s.roster.mode ≠ .offline → r.configured = false → answers 0x4000#16 [2#8, 0xFF#8, 0#8]) ∧
    (s.roster.mode ≠ .offline → r.configured = true → r.condition = .blackhole → answers 0x2000#16 [1#8, 0xFF#8, 0#8]) ∧
    (∀ (u : Fin 64) (p : Tier × Nat), p ∈ [(Tier.t1, 1), (.t2, 2), (.t3, 3)] → s.roster.mode ≠ .offline →
      r.configured = true → r.condition = .full ∨ r.condition = .partly → r.buckets.get bucket = some u → r.current = some p.1 →
      answers (BitVec.ofNat 16 (2048 * p.2 + u.val)) [0#8, BitVec.ofNat 8 u.val, BitVec.ofNat 8 p.2])

/-! ### The lookup port and the invalidation queue -/

/-- A request strobed while LKRDY is high joins the tail of the request order; strobed while LKRDY is low it is not taken. -/
def Obligations.RequestsAreTakenWhileReady : Prop :=
  ∀ (s : State) (w : BitVec 24), s.rstHeld = false →
    (s.lkrdy = true ↔ s.lookup.requests.length < 4) ∧
    (4 ≤ s.lookup.requests.length → exec (.lookupRequest w) s = .next s ∧ exec .takeRequest s = .next s) ∧
    (s.lookup.requests.length < 4 →
      exec .takeRequest s = .next { s with lookup := { s.lookup with requests := s.lookup.requests ++ [.take] } } ∧
      ∀ (g : Byte) (hash : Half), w = g ++ hash →
        exec (.lookupRequest w) s =
          .next { s with lookup := { s.lookup with requests := s.lookup.requests ++ [.lookup g.toFin hash] } })

/-- A TAKE served answers FLUSH_ALL and clears the mark, or INVALIDATE with the head id, or EMPTY. -/
def Obligations.TakeAnswersFromTheInvalidationQueue : Prop :=
  ∀ (s : State) (rest : List Request), s.lookup.requests = .take :: rest →
    (s.invalidation.flushAll = true → exec .takeService s = .next { s with
      lookup := ⟨rest, some 0xA000#16⟩, invalidation := ⟨s.invalidation.ids, false⟩ }) ∧
    (∀ (g : Fin 256) (ids : List (Fin 256)), s.invalidation = ⟨g :: ids, false⟩ → exec .takeService s = .next { s with
      lookup := ⟨rest, some (BitVec.ofNat 16 (0x8000 + g.val))⟩, invalidation := ⟨ids, false⟩ }) ∧
    (s.invalidation = ⟨[], false⟩ → exec .takeService s = .next { s with lookup := ⟨rest, some 0xC000#16⟩ })

/-- The four rows of an offer to the invalidation queue. -/
def Obligations.OfferJoinsOrFlushesTheQueue : Prop :=
  ∀ (s : State) (g : Fin 256),
    (s.invalidation.flushAll = true ∨ g ∈ s.invalidation.ids → s.offer g = s) ∧
    (s.invalidation.flushAll = false → g ∉ s.invalidation.ids → s.invalidation.ids.length < 16 →
      s.offer g = { s with invalidation := ⟨s.invalidation.ids ++ [g], false⟩ }) ∧
    (s.invalidation.flushAll = false → g ∉ s.invalidation.ids → 16 ≤ s.invalidation.ids.length →
      s.offer g = { s with
        invalidation := ⟨[], true⟩
        events := (s.push (idByte g) (.invalidationFlush s.invalidation.ids.length)).events })

/-! ### Condition lines and detectors -/

/-- A factor failure, by the detector's state: SUSPECT or DARK from SERVING, a grown cause seen in SUSPECT, a flap in
RECOVERING, no move elsewhere. A factor that is failing already makes no failure. -/
def Obligations.FactorFailureIsTakenByState : Prop :=
  ∀ (s : State) (i : Fin 4) (f : FactorSet), f ∈ [FactorSet.los, FactorSet.lock, FactorSet.hb] →
    let d := s.detectors.get i
    let e : Detector := { d with failing := d.failing ||| f }
    let put (x : Detector) : State := { s with detectors := s.detectors.set i x }
    (d.failing.has f = true → s.setFactor i f true = s) ∧
    (d.failing.has f = false →
      (d.state = .serving → d.config.tq = .us0 → s.setFactor i f true = darkEntered (put e) i) ∧
      (∀ q : QualifyTime × Nat, q ∈ [(QualifyTime.us25, 500), (.us100, 2000), (.us400, 8000)] →
        d.state = .serving → d.config.tq = q.1 →
        s.setFactor i f true = put { e with
          state := .suspect, qualify := some (s.ticks + q.2), suspect := some ⟨s.now, e.failing⟩ }) ∧
      (d.state = .suspect → s.setFactor i f true =
        put { e with suspect := d.suspect.map fun r => { r with causeSeen := r.causeSeen ||| f } }) ∧
      (d.state = .recovering → s.setFactor i f true =
        (put { e with state := .dark, awaiting := false, hold := none, level := min 6 (d.level + 1) }).push
          (idByte (uplinkId s.station.code i)) (.uplinkFlap e.failing (min 6 (d.level + 1)) d.awaiting)) ∧
      (d.state = .dark ∨ d.state = .drained ∨ d.state = .disabled → s.setFactor i f true = put e))

/-- A factor that becomes good: where another still fails, or in SERVING, RECOVERING, DRAINED, only its factor state; all good
ends SUSPECT as a glitch and moves DARK to RECOVERING. A glitch's duration is the time base less the entry time, at most one less
than Tq (log 31). -/
def Obligations.AllGoodIsTakenByState : Prop :=
  ∀ (s : State) (i : Fin 4) (f : FactorSet), f ∈ [FactorSet.los, FactorSet.lock, FactorSet.hb] →
    let d := s.detectors.get i
    let e : Detector := { d with failing := d.failing &&& ~~~f }
    let put (x : Detector) : State := { s with detectors := s.detectors.set i x }
    (d.failing.has f = false → s.setFactor i f false = s) ∧
    (d.failing.has f = true →
      (e.failing ≠ 0#3 ∨ d.state = .serving ∨ d.state = .recovering ∨ d.state = .drained ∨ d.state = .disabled →
        s.setFactor i f false = put e) ∧
      (e.failing = 0#3 → d.state = .suspect → ∀ r : SuspectRecord, d.suspect = some r →
        ∀ q : QualifyTime × Nat, q ∈ [(QualifyTime.us0, 0), (.us25, 24), (.us100, 99), (.us400, 399)] → d.config.tq = q.1 →
        s.setFactor i f false = (put { e with state := .serving, qualify := none, suspect := none }).push
          (idByte (uplinkId s.station.code i))
          (.uplinkGlitch r.causeSeen (BitVec.ofNat 32 (min (s.now - r.entryTime).toNat q.2)))) ∧
      (e.failing = 0#3 → d.state = .dark → s.setFactor i f false = put (recoveringFrom s.ticks e)))

/-- LOS_CHANGE and LOCK_CHANGE keep the line's level; while the detector watches the line its factor follows it: LOS fails
while high, LOCK while low. -/
def Obligations.LinesMoveTheirFactors : Prop :=
  ∀ (s : State) (i : Fin 4) (high : Bool),
    let d := s.detectors.get i
    let los : State := { s with detectors := s.detectors.set i { d with losLine := high } }
    let lock : State := { s with detectors := s.detectors.set i { d with lockLine := high } }
    exec (.losChange i high) s = .next
      (if d.state ≠ .disabled ∧ d.config.mask.has FactorSet.los = true then los.setFactor i FactorSet.los high else los) ∧
    exec (.lockChange i high) s = .next
      (if d.state ≠ .disabled ∧ d.config.mask.has FactorSet.lock = true then lock.setFactor i FactorSet.lock (!high) else lock)

/-- HEARTBEAT_PULSE judges the interval against the window, both ends included, and starts the watchdog again at HBmax; its
expiry fails the HB factor and stops it. The interval is counted in bit times (log 14). -/
def Obligations.HeartbeatIsJudgedByItsWindow : Prop :=
  ∀ (s : State) (i : Fin 4),
    let d := s.detectors.get i
    let pulsed : Detector := { d with lastPulse := some s.ticks, watchdog := some (s.ticks + d.config.hbMax * 200) }
    let seen : State := { s with detectors := s.detectors.set i pulsed }
    (d.state = .disabled ∨ d.config.mask.has FactorSet.hb = false → exec (.heartbeatPulse i) s = .next s) ∧
    (d.state ≠ .disabled → d.config.mask.has FactorSet.hb = true →
      (d.lastPulse = none → exec (.heartbeatPulse i) s = .next seen) ∧
      ∀ last : Nat, d.lastPulse = some last →
        (d.config.hbMin * 200 ≤ s.ticks - last → s.ticks - last ≤ d.config.hbMax * 200 →
          exec (.heartbeatPulse i) s = .next (seen.setFactor i FactorSet.hb false)) ∧
        (s.ticks - last < d.config.hbMin * 200 ∨ d.config.hbMax * 200 < s.ticks - last →
          exec (.heartbeatPulse i) s = .next (seen.setFactor i FactorSet.hb true))) ∧
    (d.watchdog.isSome = true → exec (.heartbeatWatchdogExpiry i) s =
      .next (({ s with detectors := s.detectors.set i { d with watchdog := none } } : State).setFactor i FactorSet.hb true))

/-- The qualify expiry in SUSPECT enters DARK with the factors failing then, a risen level where the stability timer ran, the
own entry's change and UPLINK_DARK. -/
def Obligations.QualifyExpiryEntersDark : Prop :=
  ∀ (s : State) (i : Fin 4), (s.detectors.get i).state = .suspect → (s.detectors.get i).qualify.isSome = true →
    (s.detectors.get i).failing ≠ 0#3 → exec (.qualifyTimerExpiry i) s = .next (darkEntered s i)

/-- The restore hold's expiry goes to SERVING in AUTO and awaits release in HELD (R34); the stability expiry returns the level
to 0 (R30, R31). -/
def Obligations.HoldAndStabilityExpiries : Prop :=
  ∀ (s : State) (i : Fin 4),
    let d := s.detectors.get i
    (d.state = .recovering → d.awaiting = false → d.hold.isSome = true →
      (d.config.clearMode = .auto → exec (.restoreHoldExpiry i) s = .next (servingEntered s i .holdExpiry)) ∧
      (d.config.clearMode = .held → exec (.restoreHoldExpiry i) s =
        .next (({ s with detectors := s.detectors.set i { d with awaiting := true, hold := none } } : State).push
          (idByte (uplinkId s.station.code i)) (.uplinkAwaiting d.level)))) ∧
    (d.stability.isSome = true → exec (.stabilityTimerExpiry i) s =
      .next { s with detectors := s.detectors.set i { d with level := 0, stability := none } })

/-! ### The failover lane -/

/-- The end of a quiet gap makes the lane quiet and a seeking or discarding receiver READY; none ends while the transmitter drives
or the receiver follows a notice (log 4). A dominant level ends quiet, starts the count over and takes a READY receiver to
RECEIVING (log 8). -/
def Obligations.QuietGapAndDominantLevel : Prop :=
  ∀ s : State, s.rstHeld = false →
    (s.lane.tx = .idle → s.lane.rx ≠ .receiving → s.lane.rx ≠ .closing →
      exec .quietGapEnd s = .next { s with lane := { s.lane with
        quiet := true, gapEnd := none
        rx := if s.lane.rx = .seeking ∨ s.lane.rx = .discarding then .ready else s.lane.rx } }) ∧
    (s.lane.tx ≠ .idle ∨ s.lane.rx = .receiving ∨ s.lane.rx = .closing → exec .quietGapEnd s = .next s) ∧
    exec .laneDominantLevel s = .next { s with lane := { s.lane with
      quiet := false, gapEnd := some (s.ticks + 13), rx := if s.lane.rx = .ready then .receiving else s.lane.rx } }

/-- NOTICE_START_OFFER under the five conditions of an offer captures a records notice or a BEACON whole from the own entries
and drives the start mark (log 9), which starts the gap's count over (log 8); under any other condition nothing is driven. -/
def Obligations.OfferCapturesTheNotice : Prop :=
  ∀ s : State,
    let waiting := ([0, 1, 2, 3] : List (Fin 4)).filter fun i => decide ((s.announcer.entries.get i).state ≠ .clean)
    let carried := if waiting = [] then [0, 1, 2, 3] else waiting
    let own (i : Fin 4) := s.map.get (uplinkId s.station.code i)
    let offered := s.lane.tx = .idle ∧ (s.roster.mode = .joining ∨ s.roster.mode = .active) ∧ s.lane.rx = .ready ∧
      s.lane.quiet = true ∧ (waiting ≠ [] ∨ s.announcer.beaconDue = true)
    (¬ offered → exec .noticeStartOffer s = .next s) ∧
    (offered → ∃ t : State, exec .noticeStartOffer s = .next t ∧
      t.lane = { s.lane with
        tx := .arbitrating, rx := .receiving, quiet := false, gapEnd := some (s.ticks + 13), tally := none
        captured := some
          { kind := if waiting = [] then .beacon else if ∀ i ∈ waiting, (own i).state = .inService then .update else .alert
            sender := s.station.code
            join := decide (s.roster.mode = .joining)
            fingerprint := s.station.fingerprint
            records := carried.map fun i =>
              ⟨i, (own i).state, (own i).epoch, if (own i).state = .dark then (own i).cause else 0#3⟩ } } ∧
      (∀ i : Fin 4, t.announcer.entries.get i =
        if i ∈ waiting then { s.announcer.entries.get i with sentEpoch := (own i).epoch } else s.announcer.entries.get i) ∧
      t = { s with lane := t.lane, announcer := { s.announcer with entries := t.announcer.entries } })

/-- The notice a station captures passes every check of a receiver that has its fingerprint, when its bits arrive as sent: fields
2 to 7 in the order of R46, each most significant bit first, and the CRC that R171 forms over them. -/
def Obligations.CapturedNoticePassesEveryCheck : Prop :=
  (∀ s : State, judge s.station.fingerprint s.capture.wire = .accepted ∧ s.capture.wire.records = s.capture.records ∧
    s.capture.wire.sender = s.station.code ∧ 1 ≤ s.capture.records.length ∧ s.capture.records.length ≤ 4) ∧
  NoticeLayout

/-- Arbitration lost drops the notice with no outcome; won goes to SENDING; a mismatch goes to ABORTING for eight bit times;
an abort with nothing captured ends with no outcome (log 22), and its release counts the gap anew (log 8). -/
def Obligations.TransmitterMoves : Prop :=
  ∀ s : State,
    (s.lane.tx = .arbitrating →
      exec .arbitrationLost s = .next { s with lane := { s.lane with tx := .idle, captured := none } } ∧
      exec .arbitrationWon s = .next { s with lane := { s.lane with tx := .sending } }) ∧
    (s.lane.tx = .arbitrating ∨ s.lane.tx = .sending →
      exec .txMismatch s = .next { s with lane := { s.lane with tx := .aborting, abortEnd := some (s.ticks + 8) } }) ∧
    (s.lane.tx = .aborting → s.lane.captured = none →
      exec .abortPatternEnd s = .next { s with lane := { s.lane with
        tx := .idle, captured := none, tally := none, abortEnd := none, gapEnd := recounted s } })

/-- A won notice ends, short of an eighth fault: the fault count and TX_FAULT, the hears-me bookkeeping, the settlement of
each carried entry, the beacon timer, the join guard's test, and the events in their order. The quiet gap is counted from this
end, or ends later where a dominant level has already put its end later (R45, R51, log 8). -/
def Obligations.EndOfWonNoticeIsTakenWhole : Prop :=
  ∀ (s : State) (c : Instr) (n : Notice) (tally : Option StationSet), EndsNotice s c n tally →
    ownHeard s tally = true ∨ s.lane.faults < 7 ∨ (s.roster.mode ≠ .joining ∧ s.roster.mode ≠ .active) →
    ∃ t : State, exec c s = .next t ∧
      t.lane = laneAfterEnd s tally (ownHeard s tally) ∧
      (∀ k : Fin 16, t.roster.slots.get k = match tally with
        | some slots => bookkept s n.join slots k
        | none => s.roster.slots.get k) ∧
      (∀ i : Fin 4, t.announcer.entries.get i =
        if i ∈ countedEntries s n then
          settled (s.announcer.entries.get i) (tally.getD 0#16) (missingAt s t (tally.getD 0#16) i)
        else s.announcer.entries.get i) ∧
      t.announcer.beaconTimer = some (s.ticks + s.beaconTicks) ∧ t.announcer.beaconDue = false ∧
      (let opens := s.roster.mode = .joining ∧ s.roster.windowElapsed = true ∧ t.joinGuard = true
       t.roster = { s.roster with
          slots := t.roster.slots
          mode := if opens then .active else s.roster.mode
          joinWindow := if opens then none else s.roster.joinWindow } ∧
       t.events = pushedAll s (endRecords s t n tally ++
          if opens then [(idByte s.station.code, .modeChange .joining .active .joinDone)] else [])) ∧
      t = { s with lane := t.lane, announcer := t.announcer, roster := t.roster, events := t.events }

/-- The eighth consecutive fault isolates the station, after the end of the notice has been taken (the gap's count: log 8). -/
def Obligations.EighthFaultIsolatesTheStation : Prop :=
  ∀ (s : State) (c : Instr) (n : Notice) (tally : Option StationSet), EndsNotice s c n tally →
    ownHeard s tally = false → 7 ≤ s.lane.faults → s.roster.mode = .joining ∨ s.roster.mode = .active →
    ∃ t : State, exec c s = .next t ∧
      t.lane = { laneAfterEnd s tally false with slotPermitted := false } ∧ t.lane.faults = 8 ∧
      (∀ k : Fin 16, t.roster.slots.get k = match tally with
        | some slots => bookkept s n.join slots k
        | none => s.roster.slots.get k) ∧
      Silenced s.announcer t.announcer ∧
      t.roster = { s.roster with
        slots := t.roster.slots, mode := .isolated, joinWindow := none, cooldown := some (s.ticks + 2000000) } ∧
      t.events = pushedAll s (endRecords s t n tally ++
        [(idByte s.station.code, .modeChange s.roster.mode .isolated .fault)]) ∧
      t = { s with lane := t.lane, announcer := t.announcer, roster := t.roster, events := t.events }

/-- A notice that fails check 1, or one of checks 2 to 4, sets that check's one flag, is discarded and reaches no one; a
decision outside RECEIVING moves a SENDING transmitter to CLOSING and nothing else (log 10). The drop counts the quiet gap anew
(log 8). -/
def Obligations.BadNoticesReachNoOne : Prop :=
  ∀ (s : State) (n : RxNotice),
    (s.lane.rx ≠ .receiving → exec (.noticeDecision n) s =
      .next { s with lane := { s.lane with tx := if s.lane.tx = .sending then .closing else s.lane.tx } }) ∧
    (s.lane.rx = .receiving →
      (n.crcComputed ≠ n.crc → exec (.noticeDecision n) s =
        .next { s with lane := laneDropped s { s.lane.flags with crcError := true } }) ∧
      (n.crcComputed = n.crc → n.kind = 3#2 ∨ ¬ (n.records.map Record.index).Nodup ∨ n.pause ≠ 3#2 →
        exec (.noticeDecision n) s =
          .next { s with lane := laneDropped s { s.lane.flags with formatError := true } }))

/-- A good notice with a foreign fingerprint is discarded with FINGERPRINT_MISMATCH; from a peer it starts the silence timer
again and excludes the peer, whose entries the roster clears before the join guard is tested (log 30). The drop counts the quiet
gap anew (log 8), and the decision moves a SENDING transmitter (log 10). -/
def Obligations.ForeignNoticeExcludesItsSender : Prop :=
  ∀ (s : State) (n : RxNotice), s.lane.rx = .receiving → Good n → n.fingerprint ≠ s.station.fingerprint →
    let dropped : State := { s with lane := laneDropped s { s.lane.flags with fingerprintMismatch := true } }
    let x := s.roster.slots.get n.sender
    let with_ (y : Slot) : State := { dropped with roster := { s.roster with slots := s.roster.slots.set n.sender y } }
    (n.sender = s.station.code → exec (.noticeDecision n) s = .next dropped) ∧
    (n.sender ≠ s.station.code → x.state = .excluded → exec (.noticeDecision n) s =
      .next (with_ { x with silence := some (s.ticks + s.silenceTicks), foreign := some n.fingerprint })) ∧
    (n.sender ≠ s.station.code → x.state ≠ .excluded → exec (.noticeDecision n) s =
      .next ((((with_ ⟨.excluded, some (s.ticks + s.silenceTicks), 0, false, false, some n.fingerprint⟩).push
        (idByte n.sender) (.peerExcluded x.state n.fingerprint)).rosterClaim n.sender).testGuard))

/-- An accepted notice takes the receiver to CLOSING; from a peer the roster takes it first, then its records reach the map in
their order, unconditionally or by the epoch rules as the slot was found; one with the own code does nothing more. The own tally
slot is driven while the notice is in CLOSING (log 33), where the mode permitted it at the decision and permits it now. The
decision moves a SENDING transmitter (log 10). PEER_JOINED is pushed by R94's table alone (log 34). -/
def Obligations.AcceptedNoticeIsHandedOn : Prop :=
  (∀ (s : State) (n : RxNotice), s.lane.rx = .receiving → Good n → n.fingerprint = s.station.fingerprint →
    let closing : State := { s with lane := laneAccepted s }
    let x := s.roster.slots.get n.sender
    let entered : SlotState := if n.join then .joining else .present
    let y : Slot := { x with state := entered, silence := some (s.ticks + s.silenceTicks), foreign := none }
    let heard : State := { closing with roster := { s.roster with slots := s.roster.slots.set n.sender y } }
    let unheard := x.state = .unknown ∨ x.state = .silent ∨ x.state = .excluded
    (n.sender = s.station.code → exec (.noticeDecision n) s = .next closing) ∧
    (n.sender ≠ s.station.code → unheard → exec (.noticeDecision n) s =
      .next (n.records.foldl (State.applyRecord true n.sender)
        (heard.push (idByte n.sender) (.peerJoined x.state entered)))) ∧
    (n.sender ≠ s.station.code → ¬ unheard → exec (.noticeDecision n) s =
      .next (n.records.foldl (State.applyRecord n.join n.sender) heard))) ∧
  ∀ s : State, s.drivesOwnSlot = true ↔
    s.lane.rx = .closing ∧ s.lane.slotPermitted = true ∧ (s.roster.mode = .joining ∨ s.roster.mode = .active)

/-- One record of an accepted peer notice: a duplicate or stale record is ignored under the epoch rules; a record applied with
the entry's own state changes its epoch alone; any other is a change of state with its mark, time, event and dirtying. -/
def Obligations.RecordsAreAppliedByEpoch : Prop :=
  ∀ (s : State) (unconditional : Bool) (sender : Fin 16) (r : Record),
    let u := uplinkId sender r.index
    let old := s.map.get u
    let distance := (r.epoch.toNat + 256 - old.epoch.toNat) % 256
    let cause : FactorSet := if r.state = .dark then r.cause else 0#3
    let changed : State := ({ s with map := s.map.set u ⟨r.state, r.epoch, .fromNotice, cause, true, s.now⟩ } : State).push
      (idByte u) (.peerUplink old.state r.state r.epoch cause .fromNotice)
    (unconditional = false → distance = 0 ∨ 128 ≤ distance → State.applyRecord unconditional sender s r = s) ∧
    (unconditional = true ∨ (1 ≤ distance ∧ distance ≤ 127) →
      (r.state = old.state → State.applyRecord unconditional sender s r =
        { s with map := s.map.set u { old with epoch := r.epoch } }) ∧
      (r.state ≠ old.state → r.state ≠ .inService → old.state ≠ .inService →
        State.applyRecord unconditional sender s r = changed) ∧
      (r.state ≠ old.state → r.state = .inService ∨ old.state = .inService →
        State.applyRecord unconditional sender s r = changed.addDirty u))

/-- An abort, a truncation or a bad start mark in RECEIVING sets its flag and discards the notice; in CLOSING the notice's end,
an abort or a missing lead goes to SEEKING with no flag, and an own tally slot still to come is not driven (log 33). The quiet gap
is counted anew (log 8). -/
def Obligations.ReceptionEndsByItsState : Prop :=
  ∀ s : State,
    let dropped (f : LaneFlags) : State := { s with lane := { s.lane with
      rx := .discarding, slotPermitted := false, gapEnd := recounted s, flags := f } }
    let ended : State := { s with lane := { s.lane with rx := .seeking, slotPermitted := false, gapEnd := recounted s } }
    (s.lane.rx = .receiving →
      exec .receiveAbort s = .next (dropped { s.lane.flags with abortSeen := true }) ∧
      exec .receiveTruncation s = .next (dropped { s.lane.flags with formatError := true }) ∧
      exec .badStartMark s = .next (dropped { s.lane.flags with formatError := true })) ∧
    (s.lane.rx = .closing →
      exec .receivedNoticeEnd s = .next ended ∧ exec .receiveAbort s = .next ended ∧ exec .receiveTruncation s = .next ended)

/-! ### Expiries of the roster, the beacon, the mode machine and the Event Queue -/

/-- A silence expiry moves the slot to SILENT, clears its marks, pushes PEER_SILENT, then makes the roster's claim and tests
the join guard. -/
def Obligations.SilenceMovesTheSlotToSilent : Prop :=
  ∀ (s : State) (k : Fin 16),
    let x := s.roster.slots.get k
    x.state = .joining ∨ x.state = .present ∨ x.state = .excluded → x.silence.isSome = true →
    exec (.silenceTimerExpiry k) s = .next
      (((({ s with roster := { s.roster with slots := s.roster.slots.set k ⟨.silent, none, 0, false, false, none⟩ } } :
        State).push (idByte k) (.peerSilent x.state)).rosterClaim k).testGuard)

/-- The roster's claim takes a peer's four entries in index order: one that is ABSENT has its epoch made 0; any other becomes
ABSENT at epoch 0, with PEER_UPLINK, and is dirtied exactly where it was IN_SERVICE. Nothing else of the map changes, an entry not
IN_SERVICE dirties nothing, and the member index stays. -/
def Obligations.RosterClaimMakesEntriesAbsent : Prop :=
  (∀ (s : State) (k : Fin 16),
    let t := s.rosterClaim k
    let old (i : Fin 4) := s.map.get (uplinkId k i)
    (∀ i : Fin 4, t.map.get (uplinkId k i) =
      if (old i).state = .absent then { old i with epoch := 0#8 } else ⟨.absent, 0#8, .fromRoster, 0#3, true, s.now⟩) ∧
    (∀ u : Fin 64, ownerOf u ≠ k → t.map.get u = s.map.get u) ∧
    t.events = pushedAll s ((([0, 1, 2, 3] : List (Fin 4)).filter fun i => decide ((old i).state ≠ .absent)).map fun i =>
      (idByte (uplinkId k i), .peerUplink (old i).state .absent 0#8 0#3 .fromRoster)) ∧
    (∀ i : Fin 4, (old i).state = .inService →
      DirtyOrInSweep t (uplinkId k i) ∨ s.engine.index.get (uplinkId k i) = []) ∧
    t = { s with map := t.map, events := t.events, engine := t.engine } ∧
    t.engine.index = s.engine.index ∧
    ((∀ i : Fin 4, (old i).state ≠ .inService) → t.engine = s.engine) ∧
    (s.engine.work ≠ .idle → t.engine = { s.engine with dirty := t.engine.dirty } ∧
      ∀ u : Fin 64, t.engine.dirty.get u = (s.engine.dirty.get u || decide (∃ i : Fin 4, u = uplinkId k i ∧ (old i).state = .inService)))) ∧
  (∀ (s : State) (k : Fin 16),
    let claimed (x : State) (i : Fin 4) : State :=
      let u := uplinkId k i
      let e := x.map.get u
      if e.state = .absent then { x with map := x.map.set u { e with epoch := 0#8 } }
      else
        let cleared := ({ x with map := x.map.set u ⟨.absent, 0#8, .fromRoster, 0#3, true, x.now⟩ } : State).push (idByte u)
          (.peerUplink e.state .absent 0#8 0#3 .fromRoster)
        if e.state = .inService then cleared.addDirty u else cleared
    s.rosterClaim k = claimed (claimed (claimed (claimed s 0) 1) 2) 3) ∧
  ∀ (s : State) (u : Fin 64),
    s.addDirty u = ({ s with engine := { s.engine with dirty := s.engine.dirty.set u true } } : State).select

/-- The beacon falls due; the Event Queue's latch is set and IRQ asserted; the join window elapses and the guard's test moves
the station to ACTIVE exactly where every peer heard and not deaf has joined-me. -/
def Obligations.StationTimersExpire : Prop :=
  ∀ s : State,
    (s.announcer.beaconTimer.isSome = true → exec .beaconTimerExpiry s =
      .next { s with announcer := { s.announcer with beaconTimer := none, beaconDue := true } }) ∧
    (s.events.idleTimer.isSome = true →
      exec .idleTimerExpiry s = .next { s with events := { s.events with idleTimer := none, idleExpired := true } } ∧
      (s.rstHeld = false → ({ s with events := { s.events with idleTimer := none, idleExpired := true } } : State).irq = true)) ∧
    (s.roster.mode = .joining → s.roster.joinWindow.isSome = true →
      let guard := ∀ k : Fin 16, (s.roster.slots.get k).state = .joining ∨ (s.roster.slots.get k).state = .present →
        (s.roster.slots.get k).deaf = true ∨ (s.roster.slots.get k).joinedMe = true
      (¬ guard → exec .joinWindowExpiry s =
        .next { s with roster := { s.roster with joinWindow := none, windowElapsed := true } }) ∧
      (guard → exec .joinWindowExpiry s = .next { s with
        roster := { s.roster with mode := .active, joinWindow := none, windowElapsed := true }
        events := (s.push (idByte s.station.code) (.modeChange .joining .active .joinDone)).events }))

/-! ### The Sweep Engine and the Steering Table -/

/-- EVALUATION_COMMIT changes nothing in an idle engine (log 4); else it commits the evaluation in flight; the next visit of a
sweep starts at once, and a sweep that is complete moves its uplink to the bottom of the ring, as a resteer does not, before
selection. -/
def Obligations.CommitAdvancesTheEngine : Prop :=
  ∀ s : State,
    (s.engine.work = .idle → exec .evaluationCommit s = .next s) ∧
    (∀ (u : Fin 64) (p : Nat) (ev : Evaluation), s.engine.work = .sweep u p ev →
      (∀ g : Fin 256, (s.engine.index.get u)[p + 1]? = some g →
        exec .evaluationCommit s = .next { committed s ev false with engine := { s.engine with
          work := .sweep u (p + 1)
            ⟨g, ((committed s ev false).groups.get g).allMembers.filter s.usable, s.ticks + 8⟩ } }) ∧
      ((s.engine.index.get u)[p + 1]? = none →
        exec .evaluationCommit s = .next ({ committed s ev false with engine := { s.engine with
          work := .idle, ring := s.engine.ring.filter (· ≠ u) ++ [u] } } : State).select)) ∧
    (∀ ev : Evaluation, s.engine.work = .resteer ev →
      exec .evaluationCommit s = .next ({ committed s ev true with engine := { s.engine with work := .idle } } : State).select)

/-- Selection: a busy engine goes on; an idle one takes the unusable dirty uplink highest in the ring, else the usable one
highest, else the lowest group of the resteer set; an uplink that no group names completes at once, and selection follows. -/
def Obligations.SelectionTakesTheFirstThatExists : Prop :=
  ∀ s : State,
    let evaluation (g : Fin 256) : Evaluation := ⟨g, (s.groups.get g).allMembers.filter s.usable, s.ticks + 8⟩
    (s.engine.work ≠ .idle → s.select = s) ∧
    (s.engine.work = .idle →
      (∀ u : Fin 64, ChosenUplink s u → s.engine.index.get u = [] →
        s.select = ({ s with engine := { s.engine with
          dirty := s.engine.dirty.set u false, ring := s.engine.ring.filter (· ≠ u) ++ [u] } } : State).select) ∧
      (∀ (u : Fin 64) (g : Fin 256) (rest : List (Fin 256)), ChosenUplink s u → s.engine.index.get u = g :: rest →
        s.select = { s with engine := { s.engine with
          dirty := s.engine.dirty.set u false, work := .sweep u 0 (evaluation g) } }) ∧
      ((∀ v ∈ s.engine.ring, s.engine.dirty.get v = false) →
        (∀ g : Fin 256, s.engine.resteers.get g = true → (∀ h : Fin 256, h.val < g.val → s.engine.resteers.get h = false) →
          s.select = { s with engine := { s.engine with
            resteers := s.engine.resteers.set g false, work := .resteer (evaluation g) } }) ∧
        ((∀ g : Fin 256, s.engine.resteers.get g = false) → s.select = s)))

/-- The current tier (R106, R107) and the condition (R103) an evaluation commits: NONE and BLACKHOLE where no member is usable;
else the best tier, or the present one where a STICKY group's tier keeps a usable member and the evaluation is no resteer. -/
def Obligations.EvaluationChoosesTheTier : Prop :=
  ∀ (g : Group) (reading : List (Fin 64)) (resteer : Bool),
    let usable (t : Tier) := ∃ m ∈ g.members t, m ∈ reading
    let new := g.evaluate reading resteer
    (new.configured = g.configured ∧ new.revert = g.revert ∧ new.tiers = g.tiers) ∧
    ((∀ t : Tier, ¬ usable t) → new = { g with current := none, buckets := .fill none, condition := .blackhole }) ∧
    (∀ best : Tier, usable best → (∀ t : Tier, t.place < best.place → ¬ usable t) →
      (∀ t : Tier, g.current = some t → g.revert = .sticky → resteer = false → usable t → new.current = some t) ∧
      (g.current = none ∨ g.revert = .revertive ∨ resteer = true ∨ (∀ t : Tier, g.current = some t → ¬ usable t) →
        new.current = some best)) ∧
    (∀ t : Tier, new.current = some t →
      new.condition = if t = .t1 ∧ ∀ m ∈ g.members .t1, m ∈ reading then .full else .partly)

/-- The buckets an evaluation commits on tier `t`: each on a usable member, at its home where that is usable, else where it was
where that is a usable member of an unchanged tier. The evaluation's buckets are those that it settles, then, in ascending bucket
number from 0 to 31, each that needs reassignment put on the usable member that holds fewest at that moment, the earliest in the
list on a tie. -/
def Obligations.EvaluationPlacesTheBuckets : Prop :=
  (∀ (g : Group) (reading : List (Fin 64)) (resteer : Bool) (t : Tier), (g.evaluate reading resteer).current = some t →
    let members := g.members t
    let home (b : Fin 32) : Option (Fin 64) := members[b.val % members.length]?
    let before (b : Fin 32) : Option (Fin 64) := if g.current = some t then g.buckets.get b else home b
    let kept (b : Fin 32) (m : Fin 64) : Prop :=
      m ∈ reading ∧ (home b = some m ∨ ((∀ h : Fin 64, home b = some h → h ∉ reading) ∧ before b = some m ∧ m ∈ members))
    ∃ settled : Table (Option (Fin 64)) 32,
      (∀ (b : Fin 32) (m : Fin 64), settled.get b = some m ↔ kept b m) ∧
      (g.evaluate reading resteer).buckets =
        (List.ofFn fun b : Fin 32 => b).foldl (Group.reassign (members.filter fun m => decide (m ∈ reading))) settled ∧
      ∀ b : Fin 32, ∃ m : Fin 64, (g.evaluate reading resteer).buckets.get b = some m ∧ m ∈ members ∧ m ∈ reading ∧
        (∀ x : Fin 64, kept b x → m = x)) ∧
  (∀ (candidates : List (Fin 64)) (buckets : Table (Option (Fin 64)) 32) (b : Fin 32),
    (∀ m : Fin 64, buckets.get b = some m → Group.reassign candidates buckets b = buckets) ∧
    (buckets.get b = none → ∀ (before : List (Fin 64)) (m : Fin 64) (after : List (Fin 64)),
      candidates = before ++ m :: after →
      (∀ x ∈ before, buckets.cells.count (some m) < buckets.cells.count (some x)) →
      (∀ x ∈ after, buckets.cells.count (some m) ≤ buckets.cells.count (some x)) →
      Group.reassign candidates buckets b = buckets.set b (some m)))

/-- Evaluation is idempotent: a second evaluation against the same reading, of the same kind or an ordinary one, gives the same
record and changes no bucket and no tier, so that its commit offers nothing and pushes nothing. -/
def Obligations.EvaluationIsIdempotent : Prop :=
  ∀ (g : Group) (reading : List (Fin 64)) (resteer : Bool),
    let once := g.evaluate reading resteer
    once.evaluate reading resteer = once ∧ once.evaluate reading false = once ∧
    Group.steeringChanged once (once.evaluate reading resteer) = false ∧
    Group.steeringChanged once (once.evaluate reading false) = false ∧
    ∀ (s : State) (id : Fin 256) (due : Nat), s.groups.get id = once →
      s.commit ⟨id, reading, due⟩ resteer = s ∧ s.commit ⟨id, reading, due⟩ false = s

/-! ### The Event Queue -/

/-- A push joins the tail and starts the idle timer while fewer than 32 records are held; otherwise it sets the overflow flag
and leaves the records, the timer and the latch. -/
def Obligations.PushJoinsTheTailOrOverflows : Prop :=
  ∀ (s : State) (subject : Byte) (d : Detail),
    (s.events.records.length < 32 → s.push subject d = { s with events := { s.events with
      records := s.events.records ++ [⟨s.now, subject, d⟩]
      idleTimer := if s.events.idleTimeout = 0#8 then none else some (s.ticks + s.events.idleTimeout.toNat * 2000) } }) ∧
    (32 ≤ s.events.records.length → s.push subject d = { s with events := { s.events with overflow := true } })

/-! ### What every step keeps -/

/-- The bounds of the queues and counts, the law of the invalidation queue, and the law of the engine (the ring holds each
uplink once, an idle engine has nothing waiting) are each kept by every step. -/
def Obligations.StepKeepsQueuesAndEngine : Prop :=
  ∀ s s' : State, step s = .next s' →
    (WithinBounds s → WithinBounds s') ∧ (InvalidationLaw s → InvalidationLaw s') ∧ (EngineLaw s → EngineLaw s')

/-- The lock agrees with the mode, and a part in OFFLINE stays at rest, after every step; and a frame in progress stays one whose
bytes spell no command yet, or whose command is taken, with RST released. -/
def Obligations.StepKeepsLockAndRest : Prop :=
  ∀ s s' : State, step s = .next s' →
    (LockLaw s ∧ OfflineLaw s ∧ HeldLaw s → LockLaw s' ∧ OfflineLaw s' ∧ HeldLaw s') ∧ (FrameLaw s → FrameLaw s')

/-- The own entries are the images of their detectors, the own slot alone is SELF, and a peer not heard has its entries
ABSENT, after every step. -/
def Obligations.StepKeepsMapInAgreement : Prop :=
  ∀ s s' : State, step s = .next s' → SelfLaw s ∧ ImageLaw s ∧ AbsenceLaw s → SelfLaw s' ∧ ImageLaw s' ∧ AbsenceLaw s'

/-- Every detector's timers, factors and level agree with its state after every step. -/
def Obligations.StepKeepsDetectorsLawful : Prop :=
  ∀ s s' : State, step s = .next s' → LockLaw s ∧ DetectorLaw s → LockLaw s' ∧ DetectorLaw s'

/-- The announce entries agree with their states, the lane is driven and its receiver runs only where the mode permits, and
the mode machine's timers run only in the modes they serve, after every step. -/
def Obligations.StepKeepsAnnouncerLaneAndTimers : Prop :=
  ∀ s s' : State, step s = .next s' → AnnounceLaw s ∧ LaneLaw s ∧ TimerLaw s → AnnounceLaw s' ∧ LaneLaw s' ∧ TimerLaw s'

/-- The steering laws hold wherever their invariant does, and every step keeps that. -/
def Obligations.StepKeepsSteeringLaws : Prop :=
  ∀ s : State, SteeringInv s → SteeringLaws s ∧ ∀ s' : State, step s = .next s' → SteeringInv s' ∧ SteeringLaws s'
end

