-- ==== Sys2Proof/Laws/State.lean ====
section
/-! SUPPORT. Each field after each named update of the state: one lemma per field per update, so that no proof unfolds a record
update. -/

namespace Sys2Proof.Machine.State

variable (s : State)

/-! ### setEntry -/

@[simp] theorem setEntry_pending (u : Fin 64) (e : MapEntry) : (s.setEntry u e).pending = s.pending := rfl
@[simp] theorem setEntry_pins (u : Fin 64) (e : MapEntry) : (s.setEntry u e).pins = s.pins := rfl
@[simp] theorem setEntry_drawn (u : Fin 64) (e : MapEntry) : (s.setEntry u e).drawn = s.drawn := rfl
@[simp] theorem setEntry_rstHeld (u : Fin 64) (e : MapEntry) : (s.setEntry u e).rstHeld = s.rstHeld := rfl
@[simp] theorem setEntry_ticks (u : Fin 64) (e : MapEntry) : (s.setEntry u e).ticks = s.ticks := rfl
@[simp] theorem setEntry_station (u : Fin 64) (e : MapEntry) : (s.setEntry u e).station = s.station := rfl
@[simp] theorem setEntry_map (u : Fin 64) (e : MapEntry) : (s.setEntry u e).map = s.map.set u e := rfl
@[simp] theorem setEntry_detectors (u : Fin 64) (e : MapEntry) : (s.setEntry u e).detectors = s.detectors := rfl
@[simp] theorem setEntry_lane (u : Fin 64) (e : MapEntry) : (s.setEntry u e).lane = s.lane := rfl
@[simp] theorem setEntry_announcer (u : Fin 64) (e : MapEntry) : (s.setEntry u e).announcer = s.announcer := rfl
@[simp] theorem setEntry_roster (u : Fin 64) (e : MapEntry) : (s.setEntry u e).roster = s.roster := rfl
@[simp] theorem setEntry_groups (u : Fin 64) (e : MapEntry) : (s.setEntry u e).groups = s.groups := rfl
@[simp] theorem setEntry_engine (u : Fin 64) (e : MapEntry) : (s.setEntry u e).engine = s.engine := rfl
@[simp] theorem setEntry_lookup (u : Fin 64) (e : MapEntry) : (s.setEntry u e).lookup = s.lookup := rfl
@[simp] theorem setEntry_invalidation (u : Fin 64) (e : MapEntry) : (s.setEntry u e).invalidation = s.invalidation := rfl
@[simp] theorem setEntry_port (u : Fin 64) (e : MapEntry) : (s.setEntry u e).port = s.port := rfl
@[simp] theorem setEntry_events (u : Fin 64) (e : MapEntry) : (s.setEntry u e).events = s.events := rfl

/-! ### setDetector -/

@[simp] theorem setDetector_pending (i : Fin 4) (d : Detector) : (s.setDetector i d).pending = s.pending := rfl
@[simp] theorem setDetector_pins (i : Fin 4) (d : Detector) : (s.setDetector i d).pins = s.pins := rfl
@[simp] theorem setDetector_drawn (i : Fin 4) (d : Detector) : (s.setDetector i d).drawn = s.drawn := rfl
@[simp] theorem setDetector_rstHeld (i : Fin 4) (d : Detector) : (s.setDetector i d).rstHeld = s.rstHeld := rfl
@[simp] theorem setDetector_ticks (i : Fin 4) (d : Detector) : (s.setDetector i d).ticks = s.ticks := rfl
@[simp] theorem setDetector_station (i : Fin 4) (d : Detector) : (s.setDetector i d).station = s.station := rfl
@[simp] theorem setDetector_map (i : Fin 4) (d : Detector) : (s.setDetector i d).map = s.map := rfl
@[simp] theorem setDetector_detectors (i : Fin 4) (d : Detector) : (s.setDetector i d).detectors = s.detectors.set i d := rfl
@[simp] theorem setDetector_lane (i : Fin 4) (d : Detector) : (s.setDetector i d).lane = s.lane := rfl
@[simp] theorem setDetector_announcer (i : Fin 4) (d : Detector) : (s.setDetector i d).announcer = s.announcer := rfl
@[simp] theorem setDetector_roster (i : Fin 4) (d : Detector) : (s.setDetector i d).roster = s.roster := rfl
@[simp] theorem setDetector_groups (i : Fin 4) (d : Detector) : (s.setDetector i d).groups = s.groups := rfl
@[simp] theorem setDetector_engine (i : Fin 4) (d : Detector) : (s.setDetector i d).engine = s.engine := rfl
@[simp] theorem setDetector_lookup (i : Fin 4) (d : Detector) : (s.setDetector i d).lookup = s.lookup := rfl
@[simp] theorem setDetector_invalidation (i : Fin 4) (d : Detector) : (s.setDetector i d).invalidation = s.invalidation := rfl
@[simp] theorem setDetector_port (i : Fin 4) (d : Detector) : (s.setDetector i d).port = s.port := rfl
@[simp] theorem setDetector_events (i : Fin 4) (d : Detector) : (s.setDetector i d).events = s.events := rfl

/-! ### setAnnounce -/

@[simp] theorem setAnnounce_pending (i : Fin 4) (a : AnnounceEntry) : (s.setAnnounce i a).pending = s.pending := rfl
@[simp] theorem setAnnounce_pins (i : Fin 4) (a : AnnounceEntry) : (s.setAnnounce i a).pins = s.pins := rfl
@[simp] theorem setAnnounce_drawn (i : Fin 4) (a : AnnounceEntry) : (s.setAnnounce i a).drawn = s.drawn := rfl
@[simp] theorem setAnnounce_rstHeld (i : Fin 4) (a : AnnounceEntry) : (s.setAnnounce i a).rstHeld = s.rstHeld := rfl
@[simp] theorem setAnnounce_ticks (i : Fin 4) (a : AnnounceEntry) : (s.setAnnounce i a).ticks = s.ticks := rfl
@[simp] theorem setAnnounce_station (i : Fin 4) (a : AnnounceEntry) : (s.setAnnounce i a).station = s.station := rfl
@[simp] theorem setAnnounce_map (i : Fin 4) (a : AnnounceEntry) : (s.setAnnounce i a).map = s.map := rfl
@[simp] theorem setAnnounce_detectors (i : Fin 4) (a : AnnounceEntry) : (s.setAnnounce i a).detectors = s.detectors := rfl
@[simp] theorem setAnnounce_lane (i : Fin 4) (a : AnnounceEntry) : (s.setAnnounce i a).lane = s.lane := rfl
@[simp] theorem setAnnounce_announcer (i : Fin 4) (a : AnnounceEntry) :
    (s.setAnnounce i a).announcer = { s.announcer with entries := s.announcer.entries.set i a } := rfl
@[simp] theorem setAnnounce_roster (i : Fin 4) (a : AnnounceEntry) : (s.setAnnounce i a).roster = s.roster := rfl
@[simp] theorem setAnnounce_groups (i : Fin 4) (a : AnnounceEntry) : (s.setAnnounce i a).groups = s.groups := rfl
@[simp] theorem setAnnounce_engine (i : Fin 4) (a : AnnounceEntry) : (s.setAnnounce i a).engine = s.engine := rfl
@[simp] theorem setAnnounce_lookup (i : Fin 4) (a : AnnounceEntry) : (s.setAnnounce i a).lookup = s.lookup := rfl
@[simp] theorem setAnnounce_invalidation (i : Fin 4) (a : AnnounceEntry) :
    (s.setAnnounce i a).invalidation = s.invalidation := rfl
@[simp] theorem setAnnounce_port (i : Fin 4) (a : AnnounceEntry) : (s.setAnnounce i a).port = s.port := rfl
@[simp] theorem setAnnounce_events (i : Fin 4) (a : AnnounceEntry) : (s.setAnnounce i a).events = s.events := rfl

/-! ### setSlot -/

@[simp] theorem setSlot_pending (k : Fin 16) (x : Slot) : (s.setSlot k x).pending = s.pending := rfl
@[simp] theorem setSlot_pins (k : Fin 16) (x : Slot) : (s.setSlot k x).pins = s.pins := rfl
@[simp] theorem setSlot_drawn (k : Fin 16) (x : Slot) : (s.setSlot k x).drawn = s.drawn := rfl
@[simp] theorem setSlot_rstHeld (k : Fin 16) (x : Slot) : (s.setSlot k x).rstHeld = s.rstHeld := rfl
@[simp] theorem setSlot_ticks (k : Fin 16) (x : Slot) : (s.setSlot k x).ticks = s.ticks := rfl
@[simp] theorem setSlot_station (k : Fin 16) (x : Slot) : (s.setSlot k x).station = s.station := rfl
@[simp] theorem setSlot_map (k : Fin 16) (x : Slot) : (s.setSlot k x).map = s.map := rfl
@[simp] theorem setSlot_detectors (k : Fin 16) (x : Slot) : (s.setSlot k x).detectors = s.detectors := rfl
@[simp] theorem setSlot_lane (k : Fin 16) (x : Slot) : (s.setSlot k x).lane = s.lane := rfl
@[simp] theorem setSlot_announcer (k : Fin 16) (x : Slot) : (s.setSlot k x).announcer = s.announcer := rfl
@[simp] theorem setSlot_roster (k : Fin 16) (x : Slot) :
    (s.setSlot k x).roster = { s.roster with slots := s.roster.slots.set k x } := rfl
@[simp] theorem setSlot_groups (k : Fin 16) (x : Slot) : (s.setSlot k x).groups = s.groups := rfl
@[simp] theorem setSlot_engine (k : Fin 16) (x : Slot) : (s.setSlot k x).engine = s.engine := rfl
@[simp] theorem setSlot_lookup (k : Fin 16) (x : Slot) : (s.setSlot k x).lookup = s.lookup := rfl
@[simp] theorem setSlot_invalidation (k : Fin 16) (x : Slot) : (s.setSlot k x).invalidation = s.invalidation := rfl
@[simp] theorem setSlot_port (k : Fin 16) (x : Slot) : (s.setSlot k x).port = s.port := rfl
@[simp] theorem setSlot_events (k : Fin 16) (x : Slot) : (s.setSlot k x).events = s.events := rfl

/-! ### setGroup -/

@[simp] theorem setGroup_pending (g : Fin 256) (r : Group) : (s.setGroup g r).pending = s.pending := rfl
@[simp] theorem setGroup_pins (g : Fin 256) (r : Group) : (s.setGroup g r).pins = s.pins := rfl
@[simp] theorem setGroup_drawn (g : Fin 256) (r : Group) : (s.setGroup g r).drawn = s.drawn := rfl
@[simp] theorem setGroup_rstHeld (g : Fin 256) (r : Group) : (s.setGroup g r).rstHeld = s.rstHeld := rfl
@[simp] theorem setGroup_ticks (g : Fin 256) (r : Group) : (s.setGroup g r).ticks = s.ticks := rfl
@[simp] theorem setGroup_station (g : Fin 256) (r : Group) : (s.setGroup g r).station = s.station := rfl
@[simp] theorem setGroup_map (g : Fin 256) (r : Group) : (s.setGroup g r).map = s.map := rfl
@[simp] theorem setGroup_detectors (g : Fin 256) (r : Group) : (s.setGroup g r).detectors = s.detectors := rfl
@[simp] theorem setGroup_lane (g : Fin 256) (r : Group) : (s.setGroup g r).lane = s.lane := rfl
@[simp] theorem setGroup_announcer (g : Fin 256) (r : Group) : (s.setGroup g r).announcer = s.announcer := rfl
@[simp] theorem setGroup_roster (g : Fin 256) (r : Group) : (s.setGroup g r).roster = s.roster := rfl
@[simp] theorem setGroup_groups (g : Fin 256) (r : Group) : (s.setGroup g r).groups = s.groups.set g r := rfl
@[simp] theorem setGroup_engine (g : Fin 256) (r : Group) : (s.setGroup g r).engine = s.engine := rfl
@[simp] theorem setGroup_lookup (g : Fin 256) (r : Group) : (s.setGroup g r).lookup = s.lookup := rfl
@[simp] theorem setGroup_invalidation (g : Fin 256) (r : Group) : (s.setGroup g r).invalidation = s.invalidation := rfl
@[simp] theorem setGroup_port (g : Fin 256) (r : Group) : (s.setGroup g r).port = s.port := rfl
@[simp] theorem setGroup_events (g : Fin 256) (r : Group) : (s.setGroup g r).events = s.events := rfl

/-! ### setMode -/

@[simp] theorem setMode_pending (m : Mode) : (s.setMode m).pending = s.pending := rfl
@[simp] theorem setMode_pins (m : Mode) : (s.setMode m).pins = s.pins := rfl
@[simp] theorem setMode_drawn (m : Mode) : (s.setMode m).drawn = s.drawn := rfl
@[simp] theorem setMode_rstHeld (m : Mode) : (s.setMode m).rstHeld = s.rstHeld := rfl
@[simp] theorem setMode_ticks (m : Mode) : (s.setMode m).ticks = s.ticks := rfl
@[simp] theorem setMode_station (m : Mode) : (s.setMode m).station = s.station := rfl
@[simp] theorem setMode_map (m : Mode) : (s.setMode m).map = s.map := rfl
@[simp] theorem setMode_detectors (m : Mode) : (s.setMode m).detectors = s.detectors := rfl
@[simp] theorem setMode_lane (m : Mode) : (s.setMode m).lane = s.lane := rfl
@[simp] theorem setMode_announcer (m : Mode) : (s.setMode m).announcer = s.announcer := rfl
@[simp] theorem setMode_roster (m : Mode) : (s.setMode m).roster = { s.roster with mode := m } := rfl
@[simp] theorem setMode_groups (m : Mode) : (s.setMode m).groups = s.groups := rfl
@[simp] theorem setMode_engine (m : Mode) : (s.setMode m).engine = s.engine := rfl
@[simp] theorem setMode_lookup (m : Mode) : (s.setMode m).lookup = s.lookup := rfl
@[simp] theorem setMode_invalidation (m : Mode) : (s.setMode m).invalidation = s.invalidation := rfl
@[simp] theorem setMode_port (m : Mode) : (s.setMode m).port = s.port := rfl
@[simp] theorem setMode_events (m : Mode) : (s.setMode m).events = s.events := rfl

/-! ### withEngine -/

@[simp] theorem withEngine_pending (e : Engine) : (s.withEngine e).pending = s.pending := rfl
@[simp] theorem withEngine_pins (e : Engine) : (s.withEngine e).pins = s.pins := rfl
@[simp] theorem withEngine_drawn (e : Engine) : (s.withEngine e).drawn = s.drawn := rfl
@[simp] theorem withEngine_rstHeld (e : Engine) : (s.withEngine e).rstHeld = s.rstHeld := rfl
@[simp] theorem withEngine_ticks (e : Engine) : (s.withEngine e).ticks = s.ticks := rfl
@[simp] theorem withEngine_station (e : Engine) : (s.withEngine e).station = s.station := rfl
@[simp] theorem withEngine_map (e : Engine) : (s.withEngine e).map = s.map := rfl
@[simp] theorem withEngine_detectors (e : Engine) : (s.withEngine e).detectors = s.detectors := rfl
@[simp] theorem withEngine_lane (e : Engine) : (s.withEngine e).lane = s.lane := rfl
@[simp] theorem withEngine_announcer (e : Engine) : (s.withEngine e).announcer = s.announcer := rfl
@[simp] theorem withEngine_roster (e : Engine) : (s.withEngine e).roster = s.roster := rfl
@[simp] theorem withEngine_groups (e : Engine) : (s.withEngine e).groups = s.groups := rfl
@[simp] theorem withEngine_engine (e : Engine) : (s.withEngine e).engine = e := rfl
@[simp] theorem withEngine_lookup (e : Engine) : (s.withEngine e).lookup = s.lookup := rfl
@[simp] theorem withEngine_invalidation (e : Engine) : (s.withEngine e).invalidation = s.invalidation := rfl
@[simp] theorem withEngine_port (e : Engine) : (s.withEngine e).port = s.port := rfl
@[simp] theorem withEngine_events (e : Engine) : (s.withEngine e).events = s.events := rfl

/-! ### withLane -/

@[simp] theorem withLane_pending (l : Lane) : (s.withLane l).pending = s.pending := rfl
@[simp] theorem withLane_pins (l : Lane) : (s.withLane l).pins = s.pins := rfl
@[simp] theorem withLane_drawn (l : Lane) : (s.withLane l).drawn = s.drawn := rfl
@[simp] theorem withLane_rstHeld (l : Lane) : (s.withLane l).rstHeld = s.rstHeld := rfl
@[simp] theorem withLane_ticks (l : Lane) : (s.withLane l).ticks = s.ticks := rfl
@[simp] theorem withLane_station (l : Lane) : (s.withLane l).station = s.station := rfl
@[simp] theorem withLane_map (l : Lane) : (s.withLane l).map = s.map := rfl
@[simp] theorem withLane_detectors (l : Lane) : (s.withLane l).detectors = s.detectors := rfl
@[simp] theorem withLane_lane (l : Lane) : (s.withLane l).lane = l := rfl
@[simp] theorem withLane_announcer (l : Lane) : (s.withLane l).announcer = s.announcer := rfl
@[simp] theorem withLane_roster (l : Lane) : (s.withLane l).roster = s.roster := rfl
@[simp] theorem withLane_groups (l : Lane) : (s.withLane l).groups = s.groups := rfl
@[simp] theorem withLane_engine (l : Lane) : (s.withLane l).engine = s.engine := rfl
@[simp] theorem withLane_lookup (l : Lane) : (s.withLane l).lookup = s.lookup := rfl
@[simp] theorem withLane_invalidation (l : Lane) : (s.withLane l).invalidation = s.invalidation := rfl
@[simp] theorem withLane_port (l : Lane) : (s.withLane l).port = s.port := rfl
@[simp] theorem withLane_events (l : Lane) : (s.withLane l).events = s.events := rfl

/-! ### withFlags -/

@[simp] theorem withFlags_pending (f : LaneFlags) : (s.withFlags f).pending = s.pending := rfl
@[simp] theorem withFlags_pins (f : LaneFlags) : (s.withFlags f).pins = s.pins := rfl
@[simp] theorem withFlags_drawn (f : LaneFlags) : (s.withFlags f).drawn = s.drawn := rfl
@[simp] theorem withFlags_rstHeld (f : LaneFlags) : (s.withFlags f).rstHeld = s.rstHeld := rfl
@[simp] theorem withFlags_ticks (f : LaneFlags) : (s.withFlags f).ticks = s.ticks := rfl
@[simp] theorem withFlags_station (f : LaneFlags) : (s.withFlags f).station = s.station := rfl
@[simp] theorem withFlags_map (f : LaneFlags) : (s.withFlags f).map = s.map := rfl
@[simp] theorem withFlags_detectors (f : LaneFlags) : (s.withFlags f).detectors = s.detectors := rfl
@[simp] theorem withFlags_lane (f : LaneFlags) : (s.withFlags f).lane = { s.lane with flags := f } := rfl
@[simp] theorem withFlags_announcer (f : LaneFlags) : (s.withFlags f).announcer = s.announcer := rfl
@[simp] theorem withFlags_roster (f : LaneFlags) : (s.withFlags f).roster = s.roster := rfl
@[simp] theorem withFlags_groups (f : LaneFlags) : (s.withFlags f).groups = s.groups := rfl
@[simp] theorem withFlags_engine (f : LaneFlags) : (s.withFlags f).engine = s.engine := rfl
@[simp] theorem withFlags_lookup (f : LaneFlags) : (s.withFlags f).lookup = s.lookup := rfl
@[simp] theorem withFlags_invalidation (f : LaneFlags) : (s.withFlags f).invalidation = s.invalidation := rfl
@[simp] theorem withFlags_port (f : LaneFlags) : (s.withFlags f).port = s.port := rfl
@[simp] theorem withFlags_events (f : LaneFlags) : (s.withFlags f).events = s.events := rfl

/-! ### withEvents -/

@[simp] theorem withEvents_pending (q : EventQueue) : (s.withEvents q).pending = s.pending := rfl
@[simp] theorem withEvents_pins (q : EventQueue) : (s.withEvents q).pins = s.pins := rfl
@[simp] theorem withEvents_drawn (q : EventQueue) : (s.withEvents q).drawn = s.drawn := rfl
@[simp] theorem withEvents_rstHeld (q : EventQueue) : (s.withEvents q).rstHeld = s.rstHeld := rfl
@[simp] theorem withEvents_ticks (q : EventQueue) : (s.withEvents q).ticks = s.ticks := rfl
@[simp] theorem withEvents_station (q : EventQueue) : (s.withEvents q).station = s.station := rfl
@[simp] theorem withEvents_map (q : EventQueue) : (s.withEvents q).map = s.map := rfl
@[simp] theorem withEvents_detectors (q : EventQueue) : (s.withEvents q).detectors = s.detectors := rfl
@[simp] theorem withEvents_lane (q : EventQueue) : (s.withEvents q).lane = s.lane := rfl
@[simp] theorem withEvents_announcer (q : EventQueue) : (s.withEvents q).announcer = s.announcer := rfl
@[simp] theorem withEvents_roster (q : EventQueue) : (s.withEvents q).roster = s.roster := rfl
@[simp] theorem withEvents_groups (q : EventQueue) : (s.withEvents q).groups = s.groups := rfl
@[simp] theorem withEvents_engine (q : EventQueue) : (s.withEvents q).engine = s.engine := rfl
@[simp] theorem withEvents_lookup (q : EventQueue) : (s.withEvents q).lookup = s.lookup := rfl
@[simp] theorem withEvents_invalidation (q : EventQueue) : (s.withEvents q).invalidation = s.invalidation := rfl
@[simp] theorem withEvents_port (q : EventQueue) : (s.withEvents q).port = s.port := rfl
@[simp] theorem withEvents_events (q : EventQueue) : (s.withEvents q).events = q := rfl

/-! ### push -/

@[simp] theorem push_pending (subject : Byte) (d : Detail) : (s.push subject d).pending = s.pending := rfl
@[simp] theorem push_pins (subject : Byte) (d : Detail) : (s.push subject d).pins = s.pins := rfl
@[simp] theorem push_drawn (subject : Byte) (d : Detail) : (s.push subject d).drawn = s.drawn := rfl
@[simp] theorem push_rstHeld (subject : Byte) (d : Detail) : (s.push subject d).rstHeld = s.rstHeld := rfl
@[simp] theorem push_ticks (subject : Byte) (d : Detail) : (s.push subject d).ticks = s.ticks := rfl
@[simp] theorem push_station (subject : Byte) (d : Detail) : (s.push subject d).station = s.station := rfl
@[simp] theorem push_map (subject : Byte) (d : Detail) : (s.push subject d).map = s.map := rfl
@[simp] theorem push_detectors (subject : Byte) (d : Detail) : (s.push subject d).detectors = s.detectors := rfl
@[simp] theorem push_lane (subject : Byte) (d : Detail) : (s.push subject d).lane = s.lane := rfl
@[simp] theorem push_announcer (subject : Byte) (d : Detail) : (s.push subject d).announcer = s.announcer := rfl
@[simp] theorem push_roster (subject : Byte) (d : Detail) : (s.push subject d).roster = s.roster := rfl
@[simp] theorem push_groups (subject : Byte) (d : Detail) : (s.push subject d).groups = s.groups := rfl
@[simp] theorem push_engine (subject : Byte) (d : Detail) : (s.push subject d).engine = s.engine := rfl
@[simp] theorem push_lookup (subject : Byte) (d : Detail) : (s.push subject d).lookup = s.lookup := rfl
@[simp] theorem push_invalidation (subject : Byte) (d : Detail) : (s.push subject d).invalidation = s.invalidation := rfl
@[simp] theorem push_port (subject : Byte) (d : Detail) : (s.push subject d).port = s.port := rfl
@[simp] theorem push_events (subject : Byte) (d : Detail) :
    (s.push subject d).events = s.events.push s.ticks ⟨s.now, subject, d⟩ := rfl

/-! ### replied -/

@[simp] theorem replied_pending (status : Status) (data : List Byte) : (s.replied status data).pending = s.pending := rfl
@[simp] theorem replied_pins (status : Status) (data : List Byte) : (s.replied status data).pins = s.pins := rfl
@[simp] theorem replied_drawn (status : Status) (data : List Byte) : (s.replied status data).drawn = s.drawn := rfl
@[simp] theorem replied_rstHeld (status : Status) (data : List Byte) : (s.replied status data).rstHeld = s.rstHeld := rfl
@[simp] theorem replied_ticks (status : Status) (data : List Byte) : (s.replied status data).ticks = s.ticks := rfl
@[simp] theorem replied_station (status : Status) (data : List Byte) : (s.replied status data).station = s.station := rfl
@[simp] theorem replied_map (status : Status) (data : List Byte) : (s.replied status data).map = s.map := rfl
@[simp] theorem replied_detectors (status : Status) (data : List Byte) : (s.replied status data).detectors = s.detectors := rfl
@[simp] theorem replied_lane (status : Status) (data : List Byte) : (s.replied status data).lane = s.lane := rfl
@[simp] theorem replied_announcer (status : Status) (data : List Byte) : (s.replied status data).announcer = s.announcer := rfl
@[simp] theorem replied_roster (status : Status) (data : List Byte) : (s.replied status data).roster = s.roster := rfl
@[simp] theorem replied_groups (status : Status) (data : List Byte) : (s.replied status data).groups = s.groups := rfl
@[simp] theorem replied_engine (status : Status) (data : List Byte) : (s.replied status data).engine = s.engine := rfl
@[simp] theorem replied_lookup (status : Status) (data : List Byte) : (s.replied status data).lookup = s.lookup := rfl
@[simp] theorem replied_invalidation (status : Status) (data : List Byte) :
    (s.replied status data).invalidation = s.invalidation := rfl
@[simp] theorem replied_port (status : Status) (data : List Byte) :
    (s.replied status data).port = { s.port with frame := .taken (status.byte :: data) 0 } := rfl
@[simp] theorem replied_events (status : Status) (data : List Byte) : (s.replied status data).events = s.events := rfl

/-! ### refuse -/

@[simp] theorem refuse_pending (status : Status) : (s.refuse status).pending = s.pending := rfl
@[simp] theorem refuse_pins (status : Status) : (s.refuse status).pins = s.pins := rfl
@[simp] theorem refuse_drawn (status : Status) : (s.refuse status).drawn = s.drawn := rfl
@[simp] theorem refuse_rstHeld (status : Status) : (s.refuse status).rstHeld = s.rstHeld := rfl
@[simp] theorem refuse_ticks (status : Status) : (s.refuse status).ticks = s.ticks := rfl
@[simp] theorem refuse_station (status : Status) : (s.refuse status).station = s.station := rfl
@[simp] theorem refuse_map (status : Status) : (s.refuse status).map = s.map := rfl
@[simp] theorem refuse_detectors (status : Status) : (s.refuse status).detectors = s.detectors := rfl
@[simp] theorem refuse_lane (status : Status) : (s.refuse status).lane = s.lane := rfl
@[simp] theorem refuse_announcer (status : Status) : (s.refuse status).announcer = s.announcer := rfl
@[simp] theorem refuse_roster (status : Status) : (s.refuse status).roster = s.roster := rfl
@[simp] theorem refuse_groups (status : Status) : (s.refuse status).groups = s.groups := rfl
@[simp] theorem refuse_engine (status : Status) : (s.refuse status).engine = s.engine := rfl
@[simp] theorem refuse_lookup (status : Status) : (s.refuse status).lookup = s.lookup := rfl
@[simp] theorem refuse_invalidation (status : Status) : (s.refuse status).invalidation = s.invalidation := rfl
@[simp] theorem refuse_port (status : Status) : (s.refuse status).port = { s.port with frame := .taken [status.byte] 0 } := rfl
@[simp] theorem refuse_events (status : Status) : (s.refuse status).events = s.events := rfl

/-! ### done -/

@[simp] theorem done_pending : s.done.pending = s.pending := rfl
@[simp] theorem done_pins : s.done.pins = s.pins := rfl
@[simp] theorem done_drawn : s.done.drawn = s.drawn := rfl
@[simp] theorem done_rstHeld : s.done.rstHeld = s.rstHeld := rfl
@[simp] theorem done_ticks : s.done.ticks = s.ticks := rfl
@[simp] theorem done_station : s.done.station = s.station := rfl
@[simp] theorem done_map : s.done.map = s.map := rfl
@[simp] theorem done_detectors : s.done.detectors = s.detectors := rfl
@[simp] theorem done_lane : s.done.lane = s.lane := rfl
@[simp] theorem done_announcer : s.done.announcer = s.announcer := rfl
@[simp] theorem done_roster : s.done.roster = s.roster := rfl
@[simp] theorem done_groups : s.done.groups = s.groups := rfl
@[simp] theorem done_engine : s.done.engine = s.engine := rfl
@[simp] theorem done_lookup : s.done.lookup = s.lookup := rfl
@[simp] theorem done_invalidation : s.done.invalidation = s.invalidation := rfl
@[simp] theorem done_port : s.done.port = { s.port with frame := .taken [Status.done.byte] 0 } := rfl
@[simp] theorem done_events : s.done.events = s.events := rfl

/-! ### frameDropped -/

@[simp] theorem frameDropped_pending : s.frameDropped.pending = s.pending := rfl
@[simp] theorem frameDropped_pins : s.frameDropped.pins = s.pins := rfl
@[simp] theorem frameDropped_drawn : s.frameDropped.drawn = s.drawn := rfl
@[simp] theorem frameDropped_rstHeld : s.frameDropped.rstHeld = s.rstHeld := rfl
@[simp] theorem frameDropped_ticks : s.frameDropped.ticks = s.ticks := rfl
@[simp] theorem frameDropped_station : s.frameDropped.station = s.station := rfl
@[simp] theorem frameDropped_map : s.frameDropped.map = s.map := rfl
@[simp] theorem frameDropped_detectors : s.frameDropped.detectors = s.detectors := rfl
@[simp] theorem frameDropped_lane : s.frameDropped.lane = s.lane := rfl
@[simp] theorem frameDropped_announcer : s.frameDropped.announcer = s.announcer := rfl
@[simp] theorem frameDropped_roster : s.frameDropped.roster = s.roster := rfl
@[simp] theorem frameDropped_groups : s.frameDropped.groups = s.groups := rfl
@[simp] theorem frameDropped_engine : s.frameDropped.engine = s.engine := rfl
@[simp] theorem frameDropped_lookup : s.frameDropped.lookup = s.lookup := rfl
@[simp] theorem frameDropped_invalidation : s.frameDropped.invalidation = s.invalidation := rfl
@[simp] theorem frameDropped_port : s.frameDropped.port = { s.port with frame := .closed } := rfl
@[simp] theorem frameDropped_events : s.frameDropped.events = s.events := rfl

/-! ### withFrame -/

@[simp] theorem withFrame_pending (f : Frame) : (s.withFrame f).pending = s.pending := rfl
@[simp] theorem withFrame_pins (f : Frame) : (s.withFrame f).pins = s.pins := rfl
@[simp] theorem withFrame_drawn (f : Frame) : (s.withFrame f).drawn = s.drawn := rfl
@[simp] theorem withFrame_rstHeld (f : Frame) : (s.withFrame f).rstHeld = s.rstHeld := rfl
@[simp] theorem withFrame_ticks (f : Frame) : (s.withFrame f).ticks = s.ticks := rfl
@[simp] theorem withFrame_station (f : Frame) : (s.withFrame f).station = s.station := rfl
@[simp] theorem withFrame_map (f : Frame) : (s.withFrame f).map = s.map := rfl
@[simp] theorem withFrame_detectors (f : Frame) : (s.withFrame f).detectors = s.detectors := rfl
@[simp] theorem withFrame_lane (f : Frame) : (s.withFrame f).lane = s.lane := rfl
@[simp] theorem withFrame_announcer (f : Frame) : (s.withFrame f).announcer = s.announcer := rfl
@[simp] theorem withFrame_roster (f : Frame) : (s.withFrame f).roster = s.roster := rfl
@[simp] theorem withFrame_groups (f : Frame) : (s.withFrame f).groups = s.groups := rfl
@[simp] theorem withFrame_engine (f : Frame) : (s.withFrame f).engine = s.engine := rfl
@[simp] theorem withFrame_lookup (f : Frame) : (s.withFrame f).lookup = s.lookup := rfl
@[simp] theorem withFrame_invalidation (f : Frame) : (s.withFrame f).invalidation = s.invalidation := rfl
@[simp] theorem withFrame_port (f : Frame) : (s.withFrame f).port = { s.port with frame := f } := rfl
@[simp] theorem withFrame_events (f : Frame) : (s.withFrame f).events = s.events := rfl

/-! ### answer -/

@[simp] theorem answer_pending (a : Answer) : (s.answer a).pending = s.pending := rfl
@[simp] theorem answer_pins (a : Answer) : (s.answer a).pins = s.pins := rfl
@[simp] theorem answer_drawn (a : Answer) : (s.answer a).drawn = s.drawn := rfl
@[simp] theorem answer_rstHeld (a : Answer) : (s.answer a).rstHeld = s.rstHeld := rfl
@[simp] theorem answer_ticks (a : Answer) : (s.answer a).ticks = s.ticks := rfl
@[simp] theorem answer_station (a : Answer) : (s.answer a).station = s.station := rfl
@[simp] theorem answer_map (a : Answer) : (s.answer a).map = s.map := rfl
@[simp] theorem answer_detectors (a : Answer) : (s.answer a).detectors = s.detectors := rfl
@[simp] theorem answer_lane (a : Answer) : (s.answer a).lane = s.lane := rfl
@[simp] theorem answer_announcer (a : Answer) : (s.answer a).announcer = s.announcer := rfl
@[simp] theorem answer_roster (a : Answer) : (s.answer a).roster = s.roster := rfl
@[simp] theorem answer_groups (a : Answer) : (s.answer a).groups = s.groups := rfl
@[simp] theorem answer_engine (a : Answer) : (s.answer a).engine = s.engine := rfl
@[simp] theorem answer_lookup (a : Answer) : (s.answer a).lookup = ⟨s.lookup.requests.tail, some a.word⟩ := rfl
@[simp] theorem answer_invalidation (a : Answer) : (s.answer a).invalidation = s.invalidation := rfl
@[simp] theorem answer_port (a : Answer) : (s.answer a).port = s.port := rfl
@[simp] theorem answer_events (a : Answer) : (s.answer a).events = s.events := rfl

/-! ### Views that only some fields decide -/

@[simp] theorem setEntry_now (u : Fin 64) (e : MapEntry) : (s.setEntry u e).now = s.now := rfl
@[simp] theorem setDetector_now (i : Fin 4) (d : Detector) : (s.setDetector i d).now = s.now := rfl
@[simp] theorem setAnnounce_now (i : Fin 4) (a : AnnounceEntry) : (s.setAnnounce i a).now = s.now := rfl
@[simp] theorem setSlot_now (k : Fin 16) (x : Slot) : (s.setSlot k x).now = s.now := rfl
@[simp] theorem withEngine_now (e : Engine) : (s.withEngine e).now = s.now := rfl
@[simp] theorem withLane_now (l : Lane) : (s.withLane l).now = s.now := rfl
@[simp] theorem push_now (subject : Byte) (d : Detail) : (s.push subject d).now = s.now := rfl
@[simp] theorem withEngine_usable (e : Engine) (u : Fin 64) : (s.withEngine e).usable u = s.usable u := rfl
@[simp] theorem push_usable (subject : Byte) (d : Detail) (u : Fin 64) : (s.push subject d).usable u = s.usable u := rfl
@[simp] theorem push_hearable (subject : Byte) (d : Detail) (k : Fin 16) :
    (s.push subject d).hearable k = s.hearable k := rfl
@[simp] theorem setAnnounce_hearable (i : Fin 4) (a : AnnounceEntry) (k : Fin 16) :
    (s.setAnnounce i a).hearable k = s.hearable k := rfl

end Sys2Proof.Machine.State
end

