-- ==== Sys2Proof/Laws/Table.lean ====
section
/-! SUPPORT. What reading a table gives after each way of writing it. -/

namespace Sys2Proof.Machine.Table

variable {α β : Type} {n : Nat}

theorem get_eq (t : Table α n) (i : Fin n) (h : i.val < t.cells.length) : t.get i = t.cells[i.val] := rfl

theorem ext_get {t u : Table α n} (h : ∀ i : Fin n, t.get i = u.get i) : t = u := by
  obtain ⟨a, ha⟩ := t
  obtain ⟨b, hb⟩ := u
  subst ha
  have : a = b := List.ext_getElem hb.symm fun k h1 _ => h ⟨k, h1⟩
  subst this
  rfl

theorem get_set (t : Table α n) (i j : Fin n) (a : α) : (t.set i a).get j = if i = j then a else t.get j := by
  have hj : j.val < t.cells.length := by rw [t.size]; exact j.isLt
  have hj' : j.val < (t.cells.set i.val a).length := by rw [List.length_set]; exact hj
  rw [get_eq t j hj, show (t.set i a).get j = (t.cells.set i.val a)[j.val] from rfl, List.getElem_set]
  simp [Fin.ext_iff]

@[simp] theorem get_set_self (t : Table α n) (i : Fin n) (a : α) : (t.set i a).get i = a := by simp [get_set]

theorem get_set_of_ne {i j : Fin n} (h : i ≠ j) (t : Table α n) (a : α) : (t.set i a).get j = t.get j := by
  simp [get_set, h]

@[simp] theorem set_set (t : Table α n) (i : Fin n) (a b : α) : (t.set i a).set i b = t.set i b :=
  ext_get fun j => by by_cases h : i = j <;> simp [get_set, h]

@[simp] theorem set_get (t : Table α n) (i : Fin n) : t.set i (t.get i) = t :=
  ext_get fun j => by by_cases h : i = j <;> simp [get_set, h]

@[simp] theorem get_tabulate (f : Fin n → α) (i : Fin n) : (tabulate f).get i = f i := by
  have h : i.val < (List.ofFn f).length := by rw [List.length_ofFn]; exact i.isLt
  rw [show (tabulate f).get i = (List.ofFn f)[i.val] from rfl, List.getElem_ofFn]

@[simp] theorem get_fill (a : α) (i : Fin n) : (fill a : Table α n).get i = a := by simp [fill]

theorem modify_eq (t : Table α n) (i : Fin n) (f : α → α) : t.modify i f = t.set i (f (t.get i)) := rfl

theorem get_modify (t : Table α n) (i j : Fin n) (f : α → α) :
    (t.modify i f).get j = if i = j then f (t.get i) else t.get j := by simp [modify_eq, get_set]

theorem tabulate_get (t : Table α n) : tabulate t.get = t := ext_get fun i => by simp

theorem cells_eq (t : Table α n) : t.cells = List.ofFn t.get := by
  apply List.ext_getElem
  · simp [t.size]
  · intro k h1 _
    have hk : k < n := by rw [← t.size]; exact h1
    simp [get_eq t ⟨k, hk⟩ h1]

/-- A cell is read as `a` somewhere exactly when the table holds `a`. -/
theorem mem_cells (t : Table α n) (a : α) : a ∈ t.cells ↔ ∃ i : Fin n, t.get i = a := by
  rw [cells_eq]
  simp [List.mem_ofFn]

/-- What holds of every cell and of the new one holds of every cell of the table written. -/
theorem forall_set {p : α → Prop} {t : Table α n} (h : ∀ j : Fin n, p (t.get j)) (i : Fin n) {a : α} (ha : p a)
    (j : Fin n) : p ((t.set i a).get j) := by
  rw [get_set]
  split <;> [exact ha; exact h j]

end Sys2Proof.Machine.Table
end

