-- ==== Sys2Proof/Laws/Frames.lean ====
section
/-! SUPPORT. The frame of each shared operation: the fields it may change, named; every other field is as it was. -/

namespace Sys2Proof.Machine.State

/-! ### The Sweep Engine's selection -/

theorem selectFuel_frame (n : Nat) (s : State) : ∃ e, selectFuel n s = { s with engine := e } := by
  induction n generalizing s with
  | zero => exact ⟨s.engine, rfl⟩
  | succ n ih =>
    unfold selectFuel
    split
    · split
      · exact ⟨_, rfl⟩
      · split
        · exact ih _
        · exact ⟨_, rfl⟩
      · exact ⟨_, rfl⟩
    · exact ⟨_, rfl⟩
    · exact ⟨_, rfl⟩

theorem select_frame (s : State) : ∃ e, s.select = { s with engine := e } := selectFuel_frame 65 s

theorem addDirty_frame (s : State) (u : Fin 64) : ∃ e, s.addDirty u = { s with engine := e } := by
  obtain ⟨e, he⟩ := select_frame (s.withEngine { s.engine with dirty := s.engine.dirty.set u true })
  exact ⟨e, he⟩

theorem dirtyOnChange_frame (s : State) (u : Fin 64) (a b : MapState) :
    ∃ e, s.dirtyOnChange u a b = { s with engine := e } := by
  unfold dirtyOnChange
  split
  · exact ⟨s.engine, rfl⟩
  · exact addDirty_frame s u

/-! ### Claims on the map -/

theorem changeOwn_frame (s : State) (i : Fin 4) (m : MapState) (c : FactorSet) :
    ∃ mp an en, s.changeOwn i m c = { s with map := mp, announcer := an, engine := en } := by
  obtain ⟨e, he⟩ := dirtyOnChange_frame
    ((s.setEntry (s.ownUplink i) ⟨m, (s.map.get (s.ownUplink i)).epoch + 1#8, .fromLocal, if m = .dark then c else 0#3, true,
      s.now⟩).setAnnounce i { s.announcer.entries.get i with state := .pending, sends := 0, heardBy := 0#16 })
    (s.ownUplink i) (s.map.get (s.ownUplink i)).state m
  exact ⟨_, _, e, he⟩

theorem changePeer_frame (s : State) (u : Fin 64) (m : MapState) (ep : Byte) (o : Origin) (c : FactorSet) :
    ∃ mp en ev, s.changePeer u m ep o c = { s with map := mp, engine := en, events := ev } := by
  obtain ⟨e, he⟩ := dirtyOnChange_frame
    ((s.setEntry u ⟨m, ep, o, c, true, s.now⟩).push (idByte u) (.peerUplink (s.map.get u).state m ep c o))
    u (s.map.get u).state m
  exact ⟨_, e, _, he⟩

theorem applyRecord_frame (un : Bool) (k : Fin 16) (s : State) (r : Record) :
    ∃ mp en ev, applyRecord un k s r = { s with map := mp, engine := en, events := ev } := by
  unfold applyRecord
  dsimp only
  split
  · split
    · exact ⟨_, _, _, rfl⟩
    · exact changePeer_frame ..
  · exact ⟨_, _, _, rfl⟩

theorem clearEntry_frame (s : State) (u : Fin 64) :
    ∃ mp en ev, s.clearEntry u = { s with map := mp, engine := en, events := ev } := by
  unfold clearEntry
  dsimp only
  split
  · exact ⟨_, _, _, rfl⟩
  · exact changePeer_frame ..

theorem rosterClaim_frame (s : State) (k : Fin 16) :
    ∃ mp en ev, s.rosterClaim k = { s with map := mp, engine := en, events := ev } := by
  unfold rosterClaim
  generalize ([0, 1, 2, 3] : List (Fin 4)) = l
  induction l generalizing s with
  | nil => exact ⟨_, _, _, rfl⟩
  | cons i l ih =>
    rw [List.foldl_cons]
    obtain ⟨a, b, c, h⟩ := clearEntry_frame s (uplinkId k i)
    obtain ⟨x, y, z, h'⟩ := ih (s.clearEntry (uplinkId k i))
    exact ⟨x, y, z, by rw [h', h]⟩

theorem applyRecords_frame (un : Bool) (k : Fin 16) (s : State) (l : List Record) :
    ∃ mp en ev, l.foldl (applyRecord un k) s = { s with map := mp, engine := en, events := ev } := by
  induction l generalizing s with
  | nil => exact ⟨_, _, _, rfl⟩
  | cons r l ih =>
    rw [List.foldl_cons]
    obtain ⟨a, b, c, h⟩ := applyRecord_frame un k s r
    obtain ⟨x, y, z, h'⟩ := ih (applyRecord un k s r)
    exact ⟨x, y, z, by rw [h', h]⟩

/-! ### Detectors -/

theorem transition_frame (s : State) (i : Fin 4) (d : Detector) (c : FactorSet) :
    ∃ mp an en, s.transition i d c =
      { s with map := mp, detectors := s.detectors.set i d, announcer := an, engine := en } := by
  unfold transition
  dsimp only
  split
  · exact ⟨_, _, _, rfl⟩
  · obtain ⟨a, b, e, h⟩ := changeOwn_frame (s.setDetector i d) i d.state.image c
    exact ⟨a, b, e, h⟩

theorem startHold_frame (s : State) (i : Fin 4) :
    ∃ mp de an en, s.startHold i = { s with map := mp, detectors := de, announcer := an, engine := en } := by
  obtain ⟨a, b, e, h⟩ := transition_frame s i { s.detectors.get i with
    state := .recovering, awaiting := false,
    hold := s.after ((s.detectors.get i).config.holdTicks (s.detectors.get i).level) } 0#3
  exact ⟨a, _, b, e, h⟩

theorem enterDark_frame (s : State) (i : Fin 4) :
    ∃ mp de an en ev, s.enterDark i = { s with map := mp, detectors := de, announcer := an, engine := en, events := ev } := by
  unfold enterDark
  dsimp only
  generalize hx : ({ s.detectors.get i with
    state := DetState.dark, qualify := none, suspect := none, stability := none, level := _ } : Detector) = x
  obtain ⟨a, b, e, h⟩ := transition_frame s i x (s.detectors.get i).failing
  rw [h]
  split
  · obtain ⟨a', d', b', e', h'⟩ := startHold_frame (State.push
      { s with map := a, detectors := s.detectors.set i x, announcer := b, engine := e } _ _) i
    exact ⟨_, _, _, _, _, h'⟩
  · exact ⟨_, _, _, _, _, rfl⟩

theorem flap_frame (s : State) (i : Fin 4) :
    ∃ mp de an en ev, s.flap i = { s with map := mp, detectors := de, announcer := an, engine := en, events := ev } := by
  unfold flap
  dsimp only
  generalize hx : ({ s.detectors.get i with
    state := DetState.dark, awaiting := false, hold := none, level := _ } : Detector) = x
  obtain ⟨a, b, e, h⟩ := transition_frame s i x (s.detectors.get i).failing
  rw [h]
  exact ⟨_, _, _, _, _, rfl⟩

theorem enterServing_frame (s : State) (i : Fin 4) (w : ReturnWay) :
    ∃ mp de an en ev, s.enterServing i w =
      { s with map := mp, detectors := de, announcer := an, engine := en, events := ev } := by
  unfold enterServing
  dsimp only
  generalize hx : ({ s.detectors.get i with
    state := DetState.serving, awaiting := false, hold := none, stability := _ } : Detector) = x
  obtain ⟨a, b, e, h⟩ := transition_frame s i x 0#3
  rw [h]
  exact ⟨_, _, _, _, _, rfl⟩

theorem factorFailure_frame (s : State) (i : Fin 4) (f : FactorSet) :
    ∃ mp de an en ev, s.factorFailure i f =
      { s with map := mp, detectors := de, announcer := an, engine := en, events := ev } := by
  unfold factorFailure
  dsimp only
  split
  · split
    · exact enterDark_frame s i
    · generalize ({ s.detectors.get i with state := DetState.suspect, qualify := _, suspect := _ } : Detector) = x
      obtain ⟨a, b, e, h⟩ := transition_frame s i x 0#3
      rw [h]
      exact ⟨_, _, _, _, _, rfl⟩
  · exact ⟨_, _, _, _, _, rfl⟩
  · exact flap_frame s i
  all_goals exact ⟨_, _, _, _, _, rfl⟩

theorem allGood_frame (s : State) (i : Fin 4) :
    ∃ mp de an en ev, s.allGood i =
      { s with map := mp, detectors := de, announcer := an, engine := en, events := ev } := by
  unfold allGood
  dsimp only
  split
  · generalize ({ s.detectors.get i with state := DetState.serving, qualify := none, suspect := none } : Detector) = x
    obtain ⟨a, b, e, h⟩ := transition_frame s i x 0#3
    rw [h]
    split <;> exact ⟨_, _, _, _, _, rfl⟩
  · obtain ⟨a, d, b, e, h⟩ := startHold_frame s i
    rw [h]
    exact ⟨_, _, _, _, _, rfl⟩
  all_goals exact ⟨_, _, _, _, _, rfl⟩

theorem setFactor_frame (s : State) (i : Fin 4) (f : FactorSet) (bad : Bool) :
    ∃ mp de an en ev, s.setFactor i f bad =
      { s with map := mp, detectors := de, announcer := an, engine := en, events := ev } := by
  unfold setFactor
  dsimp only
  split
  · exact ⟨_, _, _, _, _, rfl⟩
  · generalize ({ s.detectors.get i with failing := _ } : Detector) = x
    split
    · obtain ⟨a, d, b, e, v, h⟩ := factorFailure_frame (s.setDetector i x) i f
      exact ⟨a, d, b, e, v, h⟩
    · split
      · obtain ⟨a, d, b, e, v, h⟩ := allGood_frame (s.setDetector i x) i
        exact ⟨a, d, b, e, v, h⟩
      · exact ⟨_, _, _, _, _, rfl⟩

/-! ### Modes, the end of a won notice, notices taken -/

theorem changeMode_frame (s : State) (m : Mode) (c : ModeCause) :
    s.changeMode m c = { s with
      roster := { s.roster with mode := m }
      events := s.events.push s.ticks ⟨s.now, idByte s.station.code, .modeChange s.roster.mode m c⟩ } := rfl

theorem testGuard_frame (s : State) : ∃ ro ev, s.testGuard = { s with roster := ro, events := ev } := by
  unfold testGuard
  split <;> exact ⟨_, _, rfl⟩

theorem isolate_frame (s : State) :
    ∃ la an ro ev, s.isolate = { s with lane := la, announcer := an, roster := ro, events := ev } := ⟨_, _, _, _, rfl⟩

theorem bookkeep_frame (n : Notice) (t : StationSet) (s : State) (k : Fin 16) :
    ∃ ro ev, bookkeep n t s k = { s with roster := ro, events := ev } := by
  unfold bookkeep
  dsimp only
  split
  · split
    · exact ⟨_, _, rfl⟩
    · split <;> exact ⟨_, _, rfl⟩
  · exact ⟨_, _, rfl⟩

theorem bookkeepAll_frame (n : Notice) (t : StationSet) (s : State) (l : List (Fin 16)) :
    ∃ ro ev, l.foldl (bookkeep n t) s = { s with roster := ro, events := ev } := by
  induction l generalizing s with
  | nil => exact ⟨_, _, rfl⟩
  | cons k l ih =>
    rw [List.foldl_cons]
    obtain ⟨a, b, h⟩ := bookkeep_frame n t s k
    obtain ⟨x, y, h'⟩ := ih (bookkeep n t s k)
    exact ⟨x, y, by rw [h', h]⟩

theorem settleEntry_frame (t : StationSet) (s : State) (i : Fin 4) :
    ∃ en ev, settleEntry t s i = { s with announcer := { s.announcer with entries := en }, events := ev } := by
  unfold settleEntry
  dsimp only
  split
  · split
    · exact ⟨_, _, rfl⟩
    · split <;> exact ⟨_, _, rfl⟩
  · exact ⟨_, _, rfl⟩

theorem settleAll_frame (t : StationSet) (s : State) (l : List (Fin 4)) :
    ∃ en ev, l.foldl (settleEntry t) s = { s with announcer := { s.announcer with entries := en }, events := ev } := by
  induction l generalizing s with
  | nil => exact ⟨_, _, rfl⟩
  | cons i l ih =>
    rw [List.foldl_cons]
    obtain ⟨a, b, h⟩ := settleEntry_frame t s i
    obtain ⟨x, y, h'⟩ := ih (settleEntry t s i)
    exact ⟨x, y, by rw [h', h]⟩

theorem endOfWonNotice_frame (s : State) (n : Notice) (t : Option StationSet) :
    ∃ an ro ev, s.endOfWonNotice n t = { s with announcer := an, roster := ro, events := ev } := by
  unfold endOfWonNotice
  dsimp only
  cases t with
  | none =>
    obtain ⟨a, b, h⟩ := settleAll_frame 0#16 s n.carried
    simp only [Option.getD_none]
    rw [h]
    exact ⟨_, _, _, rfl⟩
  | some t =>
    obtain ⟨r, e, h⟩ := bookkeepAll_frame n t s codes
    obtain ⟨a, b, h'⟩ := settleAll_frame t (codes.foldl (bookkeep n t) s) n.carried
    simp only [Option.getD_some]
    rw [h', h]
    exact ⟨_, _, _, rfl⟩

theorem wonNoticeEnds_frame (s : State) (n : Notice) (t : Option StationSet) :
    ∃ la an ro ev, s.wonNoticeEnds n t = { s with lane := la, announcer := an, roster := ro, events := ev } := by
  unfold wonNoticeEnds
  dsimp only
  generalize ({ s.lane with tx := TxState.idle, captured := none, tally := _, abortEnd := none, gapEnd := _, faults := _, flags := _ } : Lane) = l
  obtain ⟨a, r, e, h⟩ := endOfWonNotice_frame (s.withLane l) n t
  rw [h]
  obtain ⟨r', e', h'⟩ := testGuard_frame ({ s.withLane l with announcer := a, roster := r, events := e })
  repeat' split
  all_goals first
    | exact ⟨_, _, _, _, h'⟩
    | exact ⟨_, _, _, _, rfl⟩

theorem takeNotice_frame (s : State) (n : RxNotice) :
    ∃ mp ro en ev, s.takeNotice n = { s with map := mp, roster := ro, engine := en, events := ev } := by
  unfold takeNotice
  dsimp only
  generalize hs : (if unheard (s.roster.slots.get n.sender) = true then _ else _ : State) = s2
  obtain ⟨a, b, c, h⟩ := applyRecords_frame (n.join || unheard (s.roster.slots.get n.sender)) n.sender s2 n.records
  rw [h, ← hs]
  split <;> exact ⟨_, _, _, _, rfl⟩

theorem takeForeign_frame (s : State) (n : RxNotice) :
    ∃ mp ro en ev, s.takeForeign n = { s with map := mp, roster := ro, engine := en, events := ev } := by
  unfold takeForeign
  dsimp only
  split
  · exact ⟨_, _, _, _, rfl⟩
  · generalize hs : State.push _ _ _ = s2
    obtain ⟨a, b, c, h⟩ := rosterClaim_frame s2 n.sender
    obtain ⟨r, e, h'⟩ := testGuard_frame (s2.rosterClaim n.sender)
    rw [h', h, ← hs]
    exact ⟨_, _, _, _, rfl⟩

theorem fallSilent_frame (s : State) (k : Fin 16) :
    ∃ mp ro en ev, s.fallSilent k = { s with map := mp, roster := ro, engine := en, events := ev } := by
  unfold fallSilent
  dsimp only
  generalize hs : State.push _ _ _ = s2
  obtain ⟨a, b, c, h⟩ := rosterClaim_frame s2 k
  obtain ⟨r, e, h'⟩ := testGuard_frame (s2.rosterClaim k)
  rw [h', h, ← hs]
  exact ⟨_, _, _, _, rfl⟩

/-! ### Notices built, commits and offers -/

theorem writeSentEpochs_frame (s : State) :
    ∃ en, s.writeSentEpochs = { s with announcer := { s.announcer with entries := en } } := by
  unfold writeSentEpochs
  generalize s.waiting = l
  suffices h : ∀ t : State, (∃ en, t = { s with announcer := { s.announcer with entries := en } }) →
      ∃ en, l.foldl (fun t i => t.setAnnounce i { t.announcer.entries.get i with sentEpoch := (s.ownEntry i).epoch }) t =
        { s with announcer := { s.announcer with entries := en } } from h s ⟨_, rfl⟩
  induction l with
  | nil => exact fun t h => h
  | cons i l ih =>
    intro t ⟨en, h⟩
    rw [List.foldl_cons]
    apply ih
    rw [h]
    exact ⟨_, rfl⟩

theorem offer_frame (s : State) (g : Fin 256) : ∃ iv ev, s.offer g = { s with invalidation := iv, events := ev } := by
  unfold offer
  dsimp only
  split
  · exact ⟨_, _, rfl⟩
  · split <;> exact ⟨_, _, rfl⟩

theorem commit_frame (s : State) (v : Evaluation) (r : Bool) :
    ∃ gr iv ev, s.commit v r = { s with groups := gr, invalidation := iv, events := ev } := by
  unfold commit
  dsimp only
  generalize (s.groups.get v.group).evaluate v.usable r = new
  split
  · split
    · rename_i d _
      obtain ⟨a, b, h⟩ := offer_frame ((s.setGroup v.group new).push (idByte v.group) d) v.group
      rw [h]
      exact ⟨_, _, _, rfl⟩
    · obtain ⟨a, b, h⟩ := offer_frame (s.setGroup v.group new) v.group
      rw [h]
      exact ⟨_, _, _, rfl⟩
  · exact ⟨_, _, _, rfl⟩

theorem advance_frame (s : State) : ∃ e, s.advance = { s with engine := e } := by
  unfold advance
  split
  · exact ⟨_, rfl⟩
  · split
    · exact ⟨_, rfl⟩
    · obtain ⟨e, h⟩ := select_frame (s.withEngine { s.engine with work := .idle, ring := ringBottom s.engine.ring _ })
      exact ⟨e, h⟩
  · obtain ⟨e, h⟩ := select_frame (s.withEngine { s.engine with work := .idle })
    exact ⟨e, h⟩

end Sys2Proof.Machine.State
end

