-- ==== Sys2Proof/Laws/Fields.lean ====
section
/-! SUPPORT. Each field that a shared operation leaves as it was, one lemma per field and operation, from the frames. -/

namespace Sys2Proof.Machine.State

variable (s : State)

/-! ### select -/

@[simp] theorem select_pending : s.select.pending = s.pending := by
  obtain ⟨_, h⟩ := select_frame s
  rw [h]
@[simp] theorem select_pins : s.select.pins = s.pins := by
  obtain ⟨_, h⟩ := select_frame s
  rw [h]
@[simp] theorem select_drawn : s.select.drawn = s.drawn := by
  obtain ⟨_, h⟩ := select_frame s
  rw [h]
@[simp] theorem select_rstHeld : s.select.rstHeld = s.rstHeld := by
  obtain ⟨_, h⟩ := select_frame s
  rw [h]
@[simp] theorem select_ticks : s.select.ticks = s.ticks := by
  obtain ⟨_, h⟩ := select_frame s
  rw [h]
@[simp] theorem select_station : s.select.station = s.station := by
  obtain ⟨_, h⟩ := select_frame s
  rw [h]
@[simp] theorem select_map : s.select.map = s.map := by
  obtain ⟨_, h⟩ := select_frame s
  rw [h]
@[simp] theorem select_detectors : s.select.detectors = s.detectors := by
  obtain ⟨_, h⟩ := select_frame s
  rw [h]
@[simp] theorem select_lane : s.select.lane = s.lane := by
  obtain ⟨_, h⟩ := select_frame s
  rw [h]
@[simp] theorem select_announcer : s.select.announcer = s.announcer := by
  obtain ⟨_, h⟩ := select_frame s
  rw [h]
@[simp] theorem select_roster : s.select.roster = s.roster := by
  obtain ⟨_, h⟩ := select_frame s
  rw [h]
@[simp] theorem select_groups : s.select.groups = s.groups := by
  obtain ⟨_, h⟩ := select_frame s
  rw [h]
@[simp] theorem select_lookup : s.select.lookup = s.lookup := by
  obtain ⟨_, h⟩ := select_frame s
  rw [h]
@[simp] theorem select_invalidation : s.select.invalidation = s.invalidation := by
  obtain ⟨_, h⟩ := select_frame s
  rw [h]
@[simp] theorem select_port : s.select.port = s.port := by
  obtain ⟨_, h⟩ := select_frame s
  rw [h]
@[simp] theorem select_events : s.select.events = s.events := by
  obtain ⟨_, h⟩ := select_frame s
  rw [h]

/-! ### addDirty -/

@[simp] theorem addDirty_pending (u : Fin 64) : (s.addDirty u).pending = s.pending := by
  obtain ⟨_, h⟩ := addDirty_frame s u
  rw [h]
@[simp] theorem addDirty_pins (u : Fin 64) : (s.addDirty u).pins = s.pins := by
  obtain ⟨_, h⟩ := addDirty_frame s u
  rw [h]
@[simp] theorem addDirty_drawn (u : Fin 64) : (s.addDirty u).drawn = s.drawn := by
  obtain ⟨_, h⟩ := addDirty_frame s u
  rw [h]
@[simp] theorem addDirty_rstHeld (u : Fin 64) : (s.addDirty u).rstHeld = s.rstHeld := by
  obtain ⟨_, h⟩ := addDirty_frame s u
  rw [h]
@[simp] theorem addDirty_ticks (u : Fin 64) : (s.addDirty u).ticks = s.ticks := by
  obtain ⟨_, h⟩ := addDirty_frame s u
  rw [h]
@[simp] theorem addDirty_station (u : Fin 64) : (s.addDirty u).station = s.station := by
  obtain ⟨_, h⟩ := addDirty_frame s u
  rw [h]
@[simp] theorem addDirty_map (u : Fin 64) : (s.addDirty u).map = s.map := by
  obtain ⟨_, h⟩ := addDirty_frame s u
  rw [h]
@[simp] theorem addDirty_detectors (u : Fin 64) : (s.addDirty u).detectors = s.detectors := by
  obtain ⟨_, h⟩ := addDirty_frame s u
  rw [h]
@[simp] theorem addDirty_lane (u : Fin 64) : (s.addDirty u).lane = s.lane := by
  obtain ⟨_, h⟩ := addDirty_frame s u
  rw [h]
@[simp] theorem addDirty_announcer (u : Fin 64) : (s.addDirty u).announcer = s.announcer := by
  obtain ⟨_, h⟩ := addDirty_frame s u
  rw [h]
@[simp] theorem addDirty_roster (u : Fin 64) : (s.addDirty u).roster = s.roster := by
  obtain ⟨_, h⟩ := addDirty_frame s u
  rw [h]
@[simp] theorem addDirty_groups (u : Fin 64) : (s.addDirty u).groups = s.groups := by
  obtain ⟨_, h⟩ := addDirty_frame s u
  rw [h]
@[simp] theorem addDirty_lookup (u : Fin 64) : (s.addDirty u).lookup = s.lookup := by
  obtain ⟨_, h⟩ := addDirty_frame s u
  rw [h]
@[simp] theorem addDirty_invalidation (u : Fin 64) : (s.addDirty u).invalidation = s.invalidation := by
  obtain ⟨_, h⟩ := addDirty_frame s u
  rw [h]
@[simp] theorem addDirty_port (u : Fin 64) : (s.addDirty u).port = s.port := by
  obtain ⟨_, h⟩ := addDirty_frame s u
  rw [h]
@[simp] theorem addDirty_events (u : Fin 64) : (s.addDirty u).events = s.events := by
  obtain ⟨_, h⟩ := addDirty_frame s u
  rw [h]

/-! ### dirtyOnChange -/

@[simp] theorem dirtyOnChange_pending (u : Fin 64) (a b : MapState) : (s.dirtyOnChange u a b).pending = s.pending := by
  obtain ⟨_, h⟩ := dirtyOnChange_frame s u a b
  rw [h]
@[simp] theorem dirtyOnChange_pins (u : Fin 64) (a b : MapState) : (s.dirtyOnChange u a b).pins = s.pins := by
  obtain ⟨_, h⟩ := dirtyOnChange_frame s u a b
  rw [h]
@[simp] theorem dirtyOnChange_drawn (u : Fin 64) (a b : MapState) : (s.dirtyOnChange u a b).drawn = s.drawn := by
  obtain ⟨_, h⟩ := dirtyOnChange_frame s u a b
  rw [h]
@[simp] theorem dirtyOnChange_rstHeld (u : Fin 64) (a b : MapState) : (s.dirtyOnChange u a b).rstHeld = s.rstHeld := by
  obtain ⟨_, h⟩ := dirtyOnChange_frame s u a b
  rw [h]
@[simp] theorem dirtyOnChange_ticks (u : Fin 64) (a b : MapState) : (s.dirtyOnChange u a b).ticks = s.ticks := by
  obtain ⟨_, h⟩ := dirtyOnChange_frame s u a b
  rw [h]
@[simp] theorem dirtyOnChange_station (u : Fin 64) (a b : MapState) : (s.dirtyOnChange u a b).station = s.station := by
  obtain ⟨_, h⟩ := dirtyOnChange_frame s u a b
  rw [h]
@[simp] theorem dirtyOnChange_map (u : Fin 64) (a b : MapState) : (s.dirtyOnChange u a b).map = s.map := by
  obtain ⟨_, h⟩ := dirtyOnChange_frame s u a b
  rw [h]
@[simp] theorem dirtyOnChange_detectors (u : Fin 64) (a b : MapState) : (s.dirtyOnChange u a b).detectors = s.detectors := by
  obtain ⟨_, h⟩ := dirtyOnChange_frame s u a b
  rw [h]
@[simp] theorem dirtyOnChange_lane (u : Fin 64) (a b : MapState) : (s.dirtyOnChange u a b).lane = s.lane := by
  obtain ⟨_, h⟩ := dirtyOnChange_frame s u a b
  rw [h]
@[simp] theorem dirtyOnChange_announcer (u : Fin 64) (a b : MapState) : (s.dirtyOnChange u a b).announcer = s.announcer := by
  obtain ⟨_, h⟩ := dirtyOnChange_frame s u a b
  rw [h]
@[simp] theorem dirtyOnChange_roster (u : Fin 64) (a b : MapState) : (s.dirtyOnChange u a b).roster = s.roster := by
  obtain ⟨_, h⟩ := dirtyOnChange_frame s u a b
  rw [h]
@[simp] theorem dirtyOnChange_groups (u : Fin 64) (a b : MapState) : (s.dirtyOnChange u a b).groups = s.groups := by
  obtain ⟨_, h⟩ := dirtyOnChange_frame s u a b
  rw [h]
@[simp] theorem dirtyOnChange_lookup (u : Fin 64) (a b : MapState) : (s.dirtyOnChange u a b).lookup = s.lookup := by
  obtain ⟨_, h⟩ := dirtyOnChange_frame s u a b
  rw [h]
@[simp] theorem dirtyOnChange_invalidation (u : Fin 64) (a b : MapState) : (s.dirtyOnChange u a b).invalidation = s.invalidation := by
  obtain ⟨_, h⟩ := dirtyOnChange_frame s u a b
  rw [h]
@[simp] theorem dirtyOnChange_port (u : Fin 64) (a b : MapState) : (s.dirtyOnChange u a b).port = s.port := by
  obtain ⟨_, h⟩ := dirtyOnChange_frame s u a b
  rw [h]
@[simp] theorem dirtyOnChange_events (u : Fin 64) (a b : MapState) : (s.dirtyOnChange u a b).events = s.events := by
  obtain ⟨_, h⟩ := dirtyOnChange_frame s u a b
  rw [h]

/-! ### changeOwn -/

@[simp] theorem changeOwn_pending (i : Fin 4) (m : MapState) (c : FactorSet) : (s.changeOwn i m c).pending = s.pending := by
  obtain ⟨_, _, _, h⟩ := changeOwn_frame s i m c
  rw [h]
@[simp] theorem changeOwn_pins (i : Fin 4) (m : MapState) (c : FactorSet) : (s.changeOwn i m c).pins = s.pins := by
  obtain ⟨_, _, _, h⟩ := changeOwn_frame s i m c
  rw [h]
@[simp] theorem changeOwn_drawn (i : Fin 4) (m : MapState) (c : FactorSet) : (s.changeOwn i m c).drawn = s.drawn := by
  obtain ⟨_, _, _, h⟩ := changeOwn_frame s i m c
  rw [h]
@[simp] theorem changeOwn_rstHeld (i : Fin 4) (m : MapState) (c : FactorSet) : (s.changeOwn i m c).rstHeld = s.rstHeld := by
  obtain ⟨_, _, _, h⟩ := changeOwn_frame s i m c
  rw [h]
@[simp] theorem changeOwn_ticks (i : Fin 4) (m : MapState) (c : FactorSet) : (s.changeOwn i m c).ticks = s.ticks := by
  obtain ⟨_, _, _, h⟩ := changeOwn_frame s i m c
  rw [h]
@[simp] theorem changeOwn_station (i : Fin 4) (m : MapState) (c : FactorSet) : (s.changeOwn i m c).station = s.station := by
  obtain ⟨_, _, _, h⟩ := changeOwn_frame s i m c
  rw [h]
@[simp] theorem changeOwn_detectors (i : Fin 4) (m : MapState) (c : FactorSet) : (s.changeOwn i m c).detectors = s.detectors := by
  obtain ⟨_, _, _, h⟩ := changeOwn_frame s i m c
  rw [h]
@[simp] theorem changeOwn_lane (i : Fin 4) (m : MapState) (c : FactorSet) : (s.changeOwn i m c).lane = s.lane := by
  obtain ⟨_, _, _, h⟩ := changeOwn_frame s i m c
  rw [h]
@[simp] theorem changeOwn_roster (i : Fin 4) (m : MapState) (c : FactorSet) : (s.changeOwn i m c).roster = s.roster := by
  obtain ⟨_, _, _, h⟩ := changeOwn_frame s i m c
  rw [h]
@[simp] theorem changeOwn_groups (i : Fin 4) (m : MapState) (c : FactorSet) : (s.changeOwn i m c).groups = s.groups := by
  obtain ⟨_, _, _, h⟩ := changeOwn_frame s i m c
  rw [h]
@[simp] theorem changeOwn_lookup (i : Fin 4) (m : MapState) (c : FactorSet) : (s.changeOwn i m c).lookup = s.lookup := by
  obtain ⟨_, _, _, h⟩ := changeOwn_frame s i m c
  rw [h]
@[simp] theorem changeOwn_invalidation (i : Fin 4) (m : MapState) (c : FactorSet) : (s.changeOwn i m c).invalidation = s.invalidation := by
  obtain ⟨_, _, _, h⟩ := changeOwn_frame s i m c
  rw [h]
@[simp] theorem changeOwn_port (i : Fin 4) (m : MapState) (c : FactorSet) : (s.changeOwn i m c).port = s.port := by
  obtain ⟨_, _, _, h⟩ := changeOwn_frame s i m c
  rw [h]
@[simp] theorem changeOwn_events (i : Fin 4) (m : MapState) (c : FactorSet) : (s.changeOwn i m c).events = s.events := by
  obtain ⟨_, _, _, h⟩ := changeOwn_frame s i m c
  rw [h]

/-! ### changePeer -/

@[simp] theorem changePeer_pending (u : Fin 64) (m : MapState) (e : Byte) (o : Origin) (c : FactorSet) : (s.changePeer u m e o c).pending = s.pending := by
  obtain ⟨_, _, _, h⟩ := changePeer_frame s u m e o c
  rw [h]
@[simp] theorem changePeer_pins (u : Fin 64) (m : MapState) (e : Byte) (o : Origin) (c : FactorSet) : (s.changePeer u m e o c).pins = s.pins := by
  obtain ⟨_, _, _, h⟩ := changePeer_frame s u m e o c
  rw [h]
@[simp] theorem changePeer_drawn (u : Fin 64) (m : MapState) (e : Byte) (o : Origin) (c : FactorSet) : (s.changePeer u m e o c).drawn = s.drawn := by
  obtain ⟨_, _, _, h⟩ := changePeer_frame s u m e o c
  rw [h]
@[simp] theorem changePeer_rstHeld (u : Fin 64) (m : MapState) (e : Byte) (o : Origin) (c : FactorSet) : (s.changePeer u m e o c).rstHeld = s.rstHeld := by
  obtain ⟨_, _, _, h⟩ := changePeer_frame s u m e o c
  rw [h]
@[simp] theorem changePeer_ticks (u : Fin 64) (m : MapState) (e : Byte) (o : Origin) (c : FactorSet) : (s.changePeer u m e o c).ticks = s.ticks := by
  obtain ⟨_, _, _, h⟩ := changePeer_frame s u m e o c
  rw [h]
@[simp] theorem changePeer_station (u : Fin 64) (m : MapState) (e : Byte) (o : Origin) (c : FactorSet) : (s.changePeer u m e o c).station = s.station := by
  obtain ⟨_, _, _, h⟩ := changePeer_frame s u m e o c
  rw [h]
@[simp] theorem changePeer_detectors (u : Fin 64) (m : MapState) (e : Byte) (o : Origin) (c : FactorSet) : (s.changePeer u m e o c).detectors = s.detectors := by
  obtain ⟨_, _, _, h⟩ := changePeer_frame s u m e o c
  rw [h]
@[simp] theorem changePeer_lane (u : Fin 64) (m : MapState) (e : Byte) (o : Origin) (c : FactorSet) : (s.changePeer u m e o c).lane = s.lane := by
  obtain ⟨_, _, _, h⟩ := changePeer_frame s u m e o c
  rw [h]
@[simp] theorem changePeer_announcer (u : Fin 64) (m : MapState) (e : Byte) (o : Origin) (c : FactorSet) : (s.changePeer u m e o c).announcer = s.announcer := by
  obtain ⟨_, _, _, h⟩ := changePeer_frame s u m e o c
  rw [h]
@[simp] theorem changePeer_roster (u : Fin 64) (m : MapState) (e : Byte) (o : Origin) (c : FactorSet) : (s.changePeer u m e o c).roster = s.roster := by
  obtain ⟨_, _, _, h⟩ := changePeer_frame s u m e o c
  rw [h]
@[simp] theorem changePeer_groups (u : Fin 64) (m : MapState) (e : Byte) (o : Origin) (c : FactorSet) : (s.changePeer u m e o c).groups = s.groups := by
  obtain ⟨_, _, _, h⟩ := changePeer_frame s u m e o c
  rw [h]
@[simp] theorem changePeer_lookup (u : Fin 64) (m : MapState) (e : Byte) (o : Origin) (c : FactorSet) : (s.changePeer u m e o c).lookup = s.lookup := by
  obtain ⟨_, _, _, h⟩ := changePeer_frame s u m e o c
  rw [h]
@[simp] theorem changePeer_invalidation (u : Fin 64) (m : MapState) (e : Byte) (o : Origin) (c : FactorSet) : (s.changePeer u m e o c).invalidation = s.invalidation := by
  obtain ⟨_, _, _, h⟩ := changePeer_frame s u m e o c
  rw [h]
@[simp] theorem changePeer_port (u : Fin 64) (m : MapState) (e : Byte) (o : Origin) (c : FactorSet) : (s.changePeer u m e o c).port = s.port := by
  obtain ⟨_, _, _, h⟩ := changePeer_frame s u m e o c
  rw [h]

/-! ### clearEntry -/

@[simp] theorem clearEntry_pending (u : Fin 64) : (s.clearEntry u).pending = s.pending := by
  obtain ⟨_, _, _, h⟩ := clearEntry_frame s u
  rw [h]
@[simp] theorem clearEntry_pins (u : Fin 64) : (s.clearEntry u).pins = s.pins := by
  obtain ⟨_, _, _, h⟩ := clearEntry_frame s u
  rw [h]
@[simp] theorem clearEntry_drawn (u : Fin 64) : (s.clearEntry u).drawn = s.drawn := by
  obtain ⟨_, _, _, h⟩ := clearEntry_frame s u
  rw [h]
@[simp] theorem clearEntry_rstHeld (u : Fin 64) : (s.clearEntry u).rstHeld = s.rstHeld := by
  obtain ⟨_, _, _, h⟩ := clearEntry_frame s u
  rw [h]
@[simp] theorem clearEntry_ticks (u : Fin 64) : (s.clearEntry u).ticks = s.ticks := by
  obtain ⟨_, _, _, h⟩ := clearEntry_frame s u
  rw [h]
@[simp] theorem clearEntry_station (u : Fin 64) : (s.clearEntry u).station = s.station := by
  obtain ⟨_, _, _, h⟩ := clearEntry_frame s u
  rw [h]
@[simp] theorem clearEntry_detectors (u : Fin 64) : (s.clearEntry u).detectors = s.detectors := by
  obtain ⟨_, _, _, h⟩ := clearEntry_frame s u
  rw [h]
@[simp] theorem clearEntry_lane (u : Fin 64) : (s.clearEntry u).lane = s.lane := by
  obtain ⟨_, _, _, h⟩ := clearEntry_frame s u
  rw [h]
@[simp] theorem clearEntry_announcer (u : Fin 64) : (s.clearEntry u).announcer = s.announcer := by
  obtain ⟨_, _, _, h⟩ := clearEntry_frame s u
  rw [h]
@[simp] theorem clearEntry_roster (u : Fin 64) : (s.clearEntry u).roster = s.roster := by
  obtain ⟨_, _, _, h⟩ := clearEntry_frame s u
  rw [h]
@[simp] theorem clearEntry_groups (u : Fin 64) : (s.clearEntry u).groups = s.groups := by
  obtain ⟨_, _, _, h⟩ := clearEntry_frame s u
  rw [h]
@[simp] theorem clearEntry_lookup (u : Fin 64) : (s.clearEntry u).lookup = s.lookup := by
  obtain ⟨_, _, _, h⟩ := clearEntry_frame s u
  rw [h]
@[simp] theorem clearEntry_invalidation (u : Fin 64) : (s.clearEntry u).invalidation = s.invalidation := by
  obtain ⟨_, _, _, h⟩ := clearEntry_frame s u
  rw [h]
@[simp] theorem clearEntry_port (u : Fin 64) : (s.clearEntry u).port = s.port := by
  obtain ⟨_, _, _, h⟩ := clearEntry_frame s u
  rw [h]

/-! ### rosterClaim -/

@[simp] theorem rosterClaim_pending (k : Fin 16) : (s.rosterClaim k).pending = s.pending := by
  obtain ⟨_, _, _, h⟩ := rosterClaim_frame s k
  rw [h]
@[simp] theorem rosterClaim_pins (k : Fin 16) : (s.rosterClaim k).pins = s.pins := by
  obtain ⟨_, _, _, h⟩ := rosterClaim_frame s k
  rw [h]
@[simp] theorem rosterClaim_drawn (k : Fin 16) : (s.rosterClaim k).drawn = s.drawn := by
  obtain ⟨_, _, _, h⟩ := rosterClaim_frame s k
  rw [h]
@[simp] theorem rosterClaim_rstHeld (k : Fin 16) : (s.rosterClaim k).rstHeld = s.rstHeld := by
  obtain ⟨_, _, _, h⟩ := rosterClaim_frame s k
  rw [h]
@[simp] theorem rosterClaim_ticks (k : Fin 16) : (s.rosterClaim k).ticks = s.ticks := by
  obtain ⟨_, _, _, h⟩ := rosterClaim_frame s k
  rw [h]
@[simp] theorem rosterClaim_station (k : Fin 16) : (s.rosterClaim k).station = s.station := by
  obtain ⟨_, _, _, h⟩ := rosterClaim_frame s k
  rw [h]
@[simp] theorem rosterClaim_detectors (k : Fin 16) : (s.rosterClaim k).detectors = s.detectors := by
  obtain ⟨_, _, _, h⟩ := rosterClaim_frame s k
  rw [h]
@[simp] theorem rosterClaim_lane (k : Fin 16) : (s.rosterClaim k).lane = s.lane := by
  obtain ⟨_, _, _, h⟩ := rosterClaim_frame s k
  rw [h]
@[simp] theorem rosterClaim_announcer (k : Fin 16) : (s.rosterClaim k).announcer = s.announcer := by
  obtain ⟨_, _, _, h⟩ := rosterClaim_frame s k
  rw [h]
@[simp] theorem rosterClaim_roster (k : Fin 16) : (s.rosterClaim k).roster = s.roster := by
  obtain ⟨_, _, _, h⟩ := rosterClaim_frame s k
  rw [h]
@[simp] theorem rosterClaim_groups (k : Fin 16) : (s.rosterClaim k).groups = s.groups := by
  obtain ⟨_, _, _, h⟩ := rosterClaim_frame s k
  rw [h]
@[simp] theorem rosterClaim_lookup (k : Fin 16) : (s.rosterClaim k).lookup = s.lookup := by
  obtain ⟨_, _, _, h⟩ := rosterClaim_frame s k
  rw [h]
@[simp] theorem rosterClaim_invalidation (k : Fin 16) : (s.rosterClaim k).invalidation = s.invalidation := by
  obtain ⟨_, _, _, h⟩ := rosterClaim_frame s k
  rw [h]
@[simp] theorem rosterClaim_port (k : Fin 16) : (s.rosterClaim k).port = s.port := by
  obtain ⟨_, _, _, h⟩ := rosterClaim_frame s k
  rw [h]

/-! ### transition -/

@[simp] theorem transition_pending (i : Fin 4) (d : Detector) (c : FactorSet) : (s.transition i d c).pending = s.pending := by
  obtain ⟨_, _, _, h⟩ := transition_frame s i d c
  rw [h]
@[simp] theorem transition_pins (i : Fin 4) (d : Detector) (c : FactorSet) : (s.transition i d c).pins = s.pins := by
  obtain ⟨_, _, _, h⟩ := transition_frame s i d c
  rw [h]
@[simp] theorem transition_drawn (i : Fin 4) (d : Detector) (c : FactorSet) : (s.transition i d c).drawn = s.drawn := by
  obtain ⟨_, _, _, h⟩ := transition_frame s i d c
  rw [h]
@[simp] theorem transition_rstHeld (i : Fin 4) (d : Detector) (c : FactorSet) : (s.transition i d c).rstHeld = s.rstHeld := by
  obtain ⟨_, _, _, h⟩ := transition_frame s i d c
  rw [h]
@[simp] theorem transition_ticks (i : Fin 4) (d : Detector) (c : FactorSet) : (s.transition i d c).ticks = s.ticks := by
  obtain ⟨_, _, _, h⟩ := transition_frame s i d c
  rw [h]
@[simp] theorem transition_station (i : Fin 4) (d : Detector) (c : FactorSet) : (s.transition i d c).station = s.station := by
  obtain ⟨_, _, _, h⟩ := transition_frame s i d c
  rw [h]
@[simp] theorem transition_lane (i : Fin 4) (d : Detector) (c : FactorSet) : (s.transition i d c).lane = s.lane := by
  obtain ⟨_, _, _, h⟩ := transition_frame s i d c
  rw [h]
@[simp] theorem transition_roster (i : Fin 4) (d : Detector) (c : FactorSet) : (s.transition i d c).roster = s.roster := by
  obtain ⟨_, _, _, h⟩ := transition_frame s i d c
  rw [h]
@[simp] theorem transition_groups (i : Fin 4) (d : Detector) (c : FactorSet) : (s.transition i d c).groups = s.groups := by
  obtain ⟨_, _, _, h⟩ := transition_frame s i d c
  rw [h]
@[simp] theorem transition_lookup (i : Fin 4) (d : Detector) (c : FactorSet) : (s.transition i d c).lookup = s.lookup := by
  obtain ⟨_, _, _, h⟩ := transition_frame s i d c
  rw [h]
@[simp] theorem transition_invalidation (i : Fin 4) (d : Detector) (c : FactorSet) : (s.transition i d c).invalidation = s.invalidation := by
  obtain ⟨_, _, _, h⟩ := transition_frame s i d c
  rw [h]
@[simp] theorem transition_port (i : Fin 4) (d : Detector) (c : FactorSet) : (s.transition i d c).port = s.port := by
  obtain ⟨_, _, _, h⟩ := transition_frame s i d c
  rw [h]
@[simp] theorem transition_events (i : Fin 4) (d : Detector) (c : FactorSet) : (s.transition i d c).events = s.events := by
  obtain ⟨_, _, _, h⟩ := transition_frame s i d c
  rw [h]

/-! ### startHold -/

@[simp] theorem startHold_pending (i : Fin 4) : (s.startHold i).pending = s.pending := by
  obtain ⟨_, _, _, _, h⟩ := startHold_frame s i
  rw [h]
@[simp] theorem startHold_pins (i : Fin 4) : (s.startHold i).pins = s.pins := by
  obtain ⟨_, _, _, _, h⟩ := startHold_frame s i
  rw [h]
@[simp] theorem startHold_drawn (i : Fin 4) : (s.startHold i).drawn = s.drawn := by
  obtain ⟨_, _, _, _, h⟩ := startHold_frame s i
  rw [h]
@[simp] theorem startHold_rstHeld (i : Fin 4) : (s.startHold i).rstHeld = s.rstHeld := by
  obtain ⟨_, _, _, _, h⟩ := startHold_frame s i
  rw [h]
@[simp] theorem startHold_ticks (i : Fin 4) : (s.startHold i).ticks = s.ticks := by
  obtain ⟨_, _, _, _, h⟩ := startHold_frame s i
  rw [h]
@[simp] theorem startHold_station (i : Fin 4) : (s.startHold i).station = s.station := by
  obtain ⟨_, _, _, _, h⟩ := startHold_frame s i
  rw [h]
@[simp] theorem startHold_lane (i : Fin 4) : (s.startHold i).lane = s.lane := by
  obtain ⟨_, _, _, _, h⟩ := startHold_frame s i
  rw [h]
@[simp] theorem startHold_roster (i : Fin 4) : (s.startHold i).roster = s.roster := by
  obtain ⟨_, _, _, _, h⟩ := startHold_frame s i
  rw [h]
@[simp] theorem startHold_groups (i : Fin 4) : (s.startHold i).groups = s.groups := by
  obtain ⟨_, _, _, _, h⟩ := startHold_frame s i
  rw [h]
@[simp] theorem startHold_lookup (i : Fin 4) : (s.startHold i).lookup = s.lookup := by
  obtain ⟨_, _, _, _, h⟩ := startHold_frame s i
  rw [h]
@[simp] theorem startHold_invalidation (i : Fin 4) : (s.startHold i).invalidation = s.invalidation := by
  obtain ⟨_, _, _, _, h⟩ := startHold_frame s i
  rw [h]
@[simp] theorem startHold_port (i : Fin 4) : (s.startHold i).port = s.port := by
  obtain ⟨_, _, _, _, h⟩ := startHold_frame s i
  rw [h]
@[simp] theorem startHold_events (i : Fin 4) : (s.startHold i).events = s.events := by
  obtain ⟨_, _, _, _, h⟩ := startHold_frame s i
  rw [h]

/-! ### enterDark -/

@[simp] theorem enterDark_pending (i : Fin 4) : (s.enterDark i).pending = s.pending := by
  obtain ⟨_, _, _, _, _, h⟩ := enterDark_frame s i
  rw [h]
@[simp] theorem enterDark_pins (i : Fin 4) : (s.enterDark i).pins = s.pins := by
  obtain ⟨_, _, _, _, _, h⟩ := enterDark_frame s i
  rw [h]
@[simp] theorem enterDark_drawn (i : Fin 4) : (s.enterDark i).drawn = s.drawn := by
  obtain ⟨_, _, _, _, _, h⟩ := enterDark_frame s i
  rw [h]
@[simp] theorem enterDark_rstHeld (i : Fin 4) : (s.enterDark i).rstHeld = s.rstHeld := by
  obtain ⟨_, _, _, _, _, h⟩ := enterDark_frame s i
  rw [h]
@[simp] theorem enterDark_ticks (i : Fin 4) : (s.enterDark i).ticks = s.ticks := by
  obtain ⟨_, _, _, _, _, h⟩ := enterDark_frame s i
  rw [h]
@[simp] theorem enterDark_station (i : Fin 4) : (s.enterDark i).station = s.station := by
  obtain ⟨_, _, _, _, _, h⟩ := enterDark_frame s i
  rw [h]
@[simp] theorem enterDark_lane (i : Fin 4) : (s.enterDark i).lane = s.lane := by
  obtain ⟨_, _, _, _, _, h⟩ := enterDark_frame s i
  rw [h]
@[simp] theorem enterDark_roster (i : Fin 4) : (s.enterDark i).roster = s.roster := by
  obtain ⟨_, _, _, _, _, h⟩ := enterDark_frame s i
  rw [h]
@[simp] theorem enterDark_groups (i : Fin 4) : (s.enterDark i).groups = s.groups := by
  obtain ⟨_, _, _, _, _, h⟩ := enterDark_frame s i
  rw [h]
@[simp] theorem enterDark_lookup (i : Fin 4) : (s.enterDark i).lookup = s.lookup := by
  obtain ⟨_, _, _, _, _, h⟩ := enterDark_frame s i
  rw [h]
@[simp] theorem enterDark_invalidation (i : Fin 4) : (s.enterDark i).invalidation = s.invalidation := by
  obtain ⟨_, _, _, _, _, h⟩ := enterDark_frame s i
  rw [h]
@[simp] theorem enterDark_port (i : Fin 4) : (s.enterDark i).port = s.port := by
  obtain ⟨_, _, _, _, _, h⟩ := enterDark_frame s i
  rw [h]

/-! ### flap -/

@[simp] theorem flap_pending (i : Fin 4) : (s.flap i).pending = s.pending := by
  obtain ⟨_, _, _, _, _, h⟩ := flap_frame s i
  rw [h]
@[simp] theorem flap_pins (i : Fin 4) : (s.flap i).pins = s.pins := by
  obtain ⟨_, _, _, _, _, h⟩ := flap_frame s i
  rw [h]
@[simp] theorem flap_drawn (i : Fin 4) : (s.flap i).drawn = s.drawn := by
  obtain ⟨_, _, _, _, _, h⟩ := flap_frame s i
  rw [h]
@[simp] theorem flap_rstHeld (i : Fin 4) : (s.flap i).rstHeld = s.rstHeld := by
  obtain ⟨_, _, _, _, _, h⟩ := flap_frame s i
  rw [h]
@[simp] theorem flap_ticks (i : Fin 4) : (s.flap i).ticks = s.ticks := by
  obtain ⟨_, _, _, _, _, h⟩ := flap_frame s i
  rw [h]
@[simp] theorem flap_station (i : Fin 4) : (s.flap i).station = s.station := by
  obtain ⟨_, _, _, _, _, h⟩ := flap_frame s i
  rw [h]
@[simp] theorem flap_lane (i : Fin 4) : (s.flap i).lane = s.lane := by
  obtain ⟨_, _, _, _, _, h⟩ := flap_frame s i
  rw [h]
@[simp] theorem flap_roster (i : Fin 4) : (s.flap i).roster = s.roster := by
  obtain ⟨_, _, _, _, _, h⟩ := flap_frame s i
  rw [h]
@[simp] theorem flap_groups (i : Fin 4) : (s.flap i).groups = s.groups := by
  obtain ⟨_, _, _, _, _, h⟩ := flap_frame s i
  rw [h]
@[simp] theorem flap_lookup (i : Fin 4) : (s.flap i).lookup = s.lookup := by
  obtain ⟨_, _, _, _, _, h⟩ := flap_frame s i
  rw [h]
@[simp] theorem flap_invalidation (i : Fin 4) : (s.flap i).invalidation = s.invalidation := by
  obtain ⟨_, _, _, _, _, h⟩ := flap_frame s i
  rw [h]
@[simp] theorem flap_port (i : Fin 4) : (s.flap i).port = s.port := by
  obtain ⟨_, _, _, _, _, h⟩ := flap_frame s i
  rw [h]

/-! ### enterServing -/

@[simp] theorem enterServing_pending (i : Fin 4) (w : ReturnWay) : (s.enterServing i w).pending = s.pending := by
  obtain ⟨_, _, _, _, _, h⟩ := enterServing_frame s i w
  rw [h]
@[simp] theorem enterServing_pins (i : Fin 4) (w : ReturnWay) : (s.enterServing i w).pins = s.pins := by
  obtain ⟨_, _, _, _, _, h⟩ := enterServing_frame s i w
  rw [h]
@[simp] theorem enterServing_drawn (i : Fin 4) (w : ReturnWay) : (s.enterServing i w).drawn = s.drawn := by
  obtain ⟨_, _, _, _, _, h⟩ := enterServing_frame s i w
  rw [h]
@[simp] theorem enterServing_rstHeld (i : Fin 4) (w : ReturnWay) : (s.enterServing i w).rstHeld = s.rstHeld := by
  obtain ⟨_, _, _, _, _, h⟩ := enterServing_frame s i w
  rw [h]
@[simp] theorem enterServing_ticks (i : Fin 4) (w : ReturnWay) : (s.enterServing i w).ticks = s.ticks := by
  obtain ⟨_, _, _, _, _, h⟩ := enterServing_frame s i w
  rw [h]
@[simp] theorem enterServing_station (i : Fin 4) (w : ReturnWay) : (s.enterServing i w).station = s.station := by
  obtain ⟨_, _, _, _, _, h⟩ := enterServing_frame s i w
  rw [h]
@[simp] theorem enterServing_lane (i : Fin 4) (w : ReturnWay) : (s.enterServing i w).lane = s.lane := by
  obtain ⟨_, _, _, _, _, h⟩ := enterServing_frame s i w
  rw [h]
@[simp] theorem enterServing_roster (i : Fin 4) (w : ReturnWay) : (s.enterServing i w).roster = s.roster := by
  obtain ⟨_, _, _, _, _, h⟩ := enterServing_frame s i w
  rw [h]
@[simp] theorem enterServing_groups (i : Fin 4) (w : ReturnWay) : (s.enterServing i w).groups = s.groups := by
  obtain ⟨_, _, _, _, _, h⟩ := enterServing_frame s i w
  rw [h]
@[simp] theorem enterServing_lookup (i : Fin 4) (w : ReturnWay) : (s.enterServing i w).lookup = s.lookup := by
  obtain ⟨_, _, _, _, _, h⟩ := enterServing_frame s i w
  rw [h]
@[simp] theorem enterServing_invalidation (i : Fin 4) (w : ReturnWay) : (s.enterServing i w).invalidation = s.invalidation := by
  obtain ⟨_, _, _, _, _, h⟩ := enterServing_frame s i w
  rw [h]
@[simp] theorem enterServing_port (i : Fin 4) (w : ReturnWay) : (s.enterServing i w).port = s.port := by
  obtain ⟨_, _, _, _, _, h⟩ := enterServing_frame s i w
  rw [h]

/-! ### factorFailure -/

@[simp] theorem factorFailure_pending (i : Fin 4) (f : FactorSet) : (s.factorFailure i f).pending = s.pending := by
  obtain ⟨_, _, _, _, _, h⟩ := factorFailure_frame s i f
  rw [h]
@[simp] theorem factorFailure_pins (i : Fin 4) (f : FactorSet) : (s.factorFailure i f).pins = s.pins := by
  obtain ⟨_, _, _, _, _, h⟩ := factorFailure_frame s i f
  rw [h]
@[simp] theorem factorFailure_drawn (i : Fin 4) (f : FactorSet) : (s.factorFailure i f).drawn = s.drawn := by
  obtain ⟨_, _, _, _, _, h⟩ := factorFailure_frame s i f
  rw [h]
@[simp] theorem factorFailure_rstHeld (i : Fin 4) (f : FactorSet) : (s.factorFailure i f).rstHeld = s.rstHeld := by
  obtain ⟨_, _, _, _, _, h⟩ := factorFailure_frame s i f
  rw [h]
@[simp] theorem factorFailure_ticks (i : Fin 4) (f : FactorSet) : (s.factorFailure i f).ticks = s.ticks := by
  obtain ⟨_, _, _, _, _, h⟩ := factorFailure_frame s i f
  rw [h]
@[simp] theorem factorFailure_station (i : Fin 4) (f : FactorSet) : (s.factorFailure i f).station = s.station := by
  obtain ⟨_, _, _, _, _, h⟩ := factorFailure_frame s i f
  rw [h]
@[simp] theorem factorFailure_lane (i : Fin 4) (f : FactorSet) : (s.factorFailure i f).lane = s.lane := by
  obtain ⟨_, _, _, _, _, h⟩ := factorFailure_frame s i f
  rw [h]
@[simp] theorem factorFailure_roster (i : Fin 4) (f : FactorSet) : (s.factorFailure i f).roster = s.roster := by
  obtain ⟨_, _, _, _, _, h⟩ := factorFailure_frame s i f
  rw [h]
@[simp] theorem factorFailure_groups (i : Fin 4) (f : FactorSet) : (s.factorFailure i f).groups = s.groups := by
  obtain ⟨_, _, _, _, _, h⟩ := factorFailure_frame s i f
  rw [h]
@[simp] theorem factorFailure_lookup (i : Fin 4) (f : FactorSet) : (s.factorFailure i f).lookup = s.lookup := by
  obtain ⟨_, _, _, _, _, h⟩ := factorFailure_frame s i f
  rw [h]
@[simp] theorem factorFailure_invalidation (i : Fin 4) (f : FactorSet) : (s.factorFailure i f).invalidation = s.invalidation := by
  obtain ⟨_, _, _, _, _, h⟩ := factorFailure_frame s i f
  rw [h]
@[simp] theorem factorFailure_port (i : Fin 4) (f : FactorSet) : (s.factorFailure i f).port = s.port := by
  obtain ⟨_, _, _, _, _, h⟩ := factorFailure_frame s i f
  rw [h]

/-! ### allGood -/

@[simp] theorem allGood_pending (i : Fin 4) : (s.allGood i).pending = s.pending := by
  obtain ⟨_, _, _, _, _, h⟩ := allGood_frame s i
  rw [h]
@[simp] theorem allGood_pins (i : Fin 4) : (s.allGood i).pins = s.pins := by
  obtain ⟨_, _, _, _, _, h⟩ := allGood_frame s i
  rw [h]
@[simp] theorem allGood_drawn (i : Fin 4) : (s.allGood i).drawn = s.drawn := by
  obtain ⟨_, _, _, _, _, h⟩ := allGood_frame s i
  rw [h]
@[simp] theorem allGood_rstHeld (i : Fin 4) : (s.allGood i).rstHeld = s.rstHeld := by
  obtain ⟨_, _, _, _, _, h⟩ := allGood_frame s i
  rw [h]
@[simp] theorem allGood_ticks (i : Fin 4) : (s.allGood i).ticks = s.ticks := by
  obtain ⟨_, _, _, _, _, h⟩ := allGood_frame s i
  rw [h]
@[simp] theorem allGood_station (i : Fin 4) : (s.allGood i).station = s.station := by
  obtain ⟨_, _, _, _, _, h⟩ := allGood_frame s i
  rw [h]
@[simp] theorem allGood_lane (i : Fin 4) : (s.allGood i).lane = s.lane := by
  obtain ⟨_, _, _, _, _, h⟩ := allGood_frame s i
  rw [h]
@[simp] theorem allGood_roster (i : Fin 4) : (s.allGood i).roster = s.roster := by
  obtain ⟨_, _, _, _, _, h⟩ := allGood_frame s i
  rw [h]
@[simp] theorem allGood_groups (i : Fin 4) : (s.allGood i).groups = s.groups := by
  obtain ⟨_, _, _, _, _, h⟩ := allGood_frame s i
  rw [h]
@[simp] theorem allGood_lookup (i : Fin 4) : (s.allGood i).lookup = s.lookup := by
  obtain ⟨_, _, _, _, _, h⟩ := allGood_frame s i
  rw [h]
@[simp] theorem allGood_invalidation (i : Fin 4) : (s.allGood i).invalidation = s.invalidation := by
  obtain ⟨_, _, _, _, _, h⟩ := allGood_frame s i
  rw [h]
@[simp] theorem allGood_port (i : Fin 4) : (s.allGood i).port = s.port := by
  obtain ⟨_, _, _, _, _, h⟩ := allGood_frame s i
  rw [h]

/-! ### setFactor -/

@[simp] theorem setFactor_pending (i : Fin 4) (f : FactorSet) (bad : Bool) : (s.setFactor i f bad).pending = s.pending := by
  obtain ⟨_, _, _, _, _, h⟩ := setFactor_frame s i f bad
  rw [h]
@[simp] theorem setFactor_pins (i : Fin 4) (f : FactorSet) (bad : Bool) : (s.setFactor i f bad).pins = s.pins := by
  obtain ⟨_, _, _, _, _, h⟩ := setFactor_frame s i f bad
  rw [h]
@[simp] theorem setFactor_drawn (i : Fin 4) (f : FactorSet) (bad : Bool) : (s.setFactor i f bad).drawn = s.drawn := by
  obtain ⟨_, _, _, _, _, h⟩ := setFactor_frame s i f bad
  rw [h]
@[simp] theorem setFactor_rstHeld (i : Fin 4) (f : FactorSet) (bad : Bool) : (s.setFactor i f bad).rstHeld = s.rstHeld := by
  obtain ⟨_, _, _, _, _, h⟩ := setFactor_frame s i f bad
  rw [h]
@[simp] theorem setFactor_ticks (i : Fin 4) (f : FactorSet) (bad : Bool) : (s.setFactor i f bad).ticks = s.ticks := by
  obtain ⟨_, _, _, _, _, h⟩ := setFactor_frame s i f bad
  rw [h]
@[simp] theorem setFactor_station (i : Fin 4) (f : FactorSet) (bad : Bool) : (s.setFactor i f bad).station = s.station := by
  obtain ⟨_, _, _, _, _, h⟩ := setFactor_frame s i f bad
  rw [h]
@[simp] theorem setFactor_lane (i : Fin 4) (f : FactorSet) (bad : Bool) : (s.setFactor i f bad).lane = s.lane := by
  obtain ⟨_, _, _, _, _, h⟩ := setFactor_frame s i f bad
  rw [h]
@[simp] theorem setFactor_roster (i : Fin 4) (f : FactorSet) (bad : Bool) : (s.setFactor i f bad).roster = s.roster := by
  obtain ⟨_, _, _, _, _, h⟩ := setFactor_frame s i f bad
  rw [h]
@[simp] theorem setFactor_groups (i : Fin 4) (f : FactorSet) (bad : Bool) : (s.setFactor i f bad).groups = s.groups := by
  obtain ⟨_, _, _, _, _, h⟩ := setFactor_frame s i f bad
  rw [h]
@[simp] theorem setFactor_lookup (i : Fin 4) (f : FactorSet) (bad : Bool) : (s.setFactor i f bad).lookup = s.lookup := by
  obtain ⟨_, _, _, _, _, h⟩ := setFactor_frame s i f bad
  rw [h]
@[simp] theorem setFactor_invalidation (i : Fin 4) (f : FactorSet) (bad : Bool) : (s.setFactor i f bad).invalidation = s.invalidation := by
  obtain ⟨_, _, _, _, _, h⟩ := setFactor_frame s i f bad
  rw [h]
@[simp] theorem setFactor_port (i : Fin 4) (f : FactorSet) (bad : Bool) : (s.setFactor i f bad).port = s.port := by
  obtain ⟨_, _, _, _, _, h⟩ := setFactor_frame s i f bad
  rw [h]

/-! ### changeMode -/

@[simp] theorem changeMode_pending (m : Mode) (c : ModeCause) : (s.changeMode m c).pending = s.pending := rfl
@[simp] theorem changeMode_pins (m : Mode) (c : ModeCause) : (s.changeMode m c).pins = s.pins := rfl
@[simp] theorem changeMode_drawn (m : Mode) (c : ModeCause) : (s.changeMode m c).drawn = s.drawn := rfl
@[simp] theorem changeMode_rstHeld (m : Mode) (c : ModeCause) : (s.changeMode m c).rstHeld = s.rstHeld := rfl
@[simp] theorem changeMode_ticks (m : Mode) (c : ModeCause) : (s.changeMode m c).ticks = s.ticks := rfl
@[simp] theorem changeMode_station (m : Mode) (c : ModeCause) : (s.changeMode m c).station = s.station := rfl
@[simp] theorem changeMode_map (m : Mode) (c : ModeCause) : (s.changeMode m c).map = s.map := rfl
@[simp] theorem changeMode_detectors (m : Mode) (c : ModeCause) : (s.changeMode m c).detectors = s.detectors := rfl
@[simp] theorem changeMode_lane (m : Mode) (c : ModeCause) : (s.changeMode m c).lane = s.lane := rfl
@[simp] theorem changeMode_announcer (m : Mode) (c : ModeCause) : (s.changeMode m c).announcer = s.announcer := rfl
@[simp] theorem changeMode_groups (m : Mode) (c : ModeCause) : (s.changeMode m c).groups = s.groups := rfl
@[simp] theorem changeMode_engine (m : Mode) (c : ModeCause) : (s.changeMode m c).engine = s.engine := rfl
@[simp] theorem changeMode_lookup (m : Mode) (c : ModeCause) : (s.changeMode m c).lookup = s.lookup := rfl
@[simp] theorem changeMode_invalidation (m : Mode) (c : ModeCause) : (s.changeMode m c).invalidation = s.invalidation := rfl
@[simp] theorem changeMode_port (m : Mode) (c : ModeCause) : (s.changeMode m c).port = s.port := rfl

/-! ### testGuard -/

@[simp] theorem testGuard_pending : s.testGuard.pending = s.pending := by
  obtain ⟨_, _, h⟩ := testGuard_frame s
  rw [h]
@[simp] theorem testGuard_pins : s.testGuard.pins = s.pins := by
  obtain ⟨_, _, h⟩ := testGuard_frame s
  rw [h]
@[simp] theorem testGuard_drawn : s.testGuard.drawn = s.drawn := by
  obtain ⟨_, _, h⟩ := testGuard_frame s
  rw [h]
@[simp] theorem testGuard_rstHeld : s.testGuard.rstHeld = s.rstHeld := by
  obtain ⟨_, _, h⟩ := testGuard_frame s
  rw [h]
@[simp] theorem testGuard_ticks : s.testGuard.ticks = s.ticks := by
  obtain ⟨_, _, h⟩ := testGuard_frame s
  rw [h]
@[simp] theorem testGuard_station : s.testGuard.station = s.station := by
  obtain ⟨_, _, h⟩ := testGuard_frame s
  rw [h]
@[simp] theorem testGuard_map : s.testGuard.map = s.map := by
  obtain ⟨_, _, h⟩ := testGuard_frame s
  rw [h]
@[simp] theorem testGuard_detectors : s.testGuard.detectors = s.detectors := by
  obtain ⟨_, _, h⟩ := testGuard_frame s
  rw [h]
@[simp] theorem testGuard_lane : s.testGuard.lane = s.lane := by
  obtain ⟨_, _, h⟩ := testGuard_frame s
  rw [h]
@[simp] theorem testGuard_announcer : s.testGuard.announcer = s.announcer := by
  obtain ⟨_, _, h⟩ := testGuard_frame s
  rw [h]
@[simp] theorem testGuard_groups : s.testGuard.groups = s.groups := by
  obtain ⟨_, _, h⟩ := testGuard_frame s
  rw [h]
@[simp] theorem testGuard_engine : s.testGuard.engine = s.engine := by
  obtain ⟨_, _, h⟩ := testGuard_frame s
  rw [h]
@[simp] theorem testGuard_lookup : s.testGuard.lookup = s.lookup := by
  obtain ⟨_, _, h⟩ := testGuard_frame s
  rw [h]
@[simp] theorem testGuard_invalidation : s.testGuard.invalidation = s.invalidation := by
  obtain ⟨_, _, h⟩ := testGuard_frame s
  rw [h]
@[simp] theorem testGuard_port : s.testGuard.port = s.port := by
  obtain ⟨_, _, h⟩ := testGuard_frame s
  rw [h]

/-! ### endOfWonNotice -/

@[simp] theorem endOfWonNotice_pending (n : Notice) (t : Option StationSet) : (s.endOfWonNotice n t).pending = s.pending := by
  obtain ⟨_, _, _, h⟩ := endOfWonNotice_frame s n t
  rw [h]
@[simp] theorem endOfWonNotice_pins (n : Notice) (t : Option StationSet) : (s.endOfWonNotice n t).pins = s.pins := by
  obtain ⟨_, _, _, h⟩ := endOfWonNotice_frame s n t
  rw [h]
@[simp] theorem endOfWonNotice_drawn (n : Notice) (t : Option StationSet) : (s.endOfWonNotice n t).drawn = s.drawn := by
  obtain ⟨_, _, _, h⟩ := endOfWonNotice_frame s n t
  rw [h]
@[simp] theorem endOfWonNotice_rstHeld (n : Notice) (t : Option StationSet) : (s.endOfWonNotice n t).rstHeld = s.rstHeld := by
  obtain ⟨_, _, _, h⟩ := endOfWonNotice_frame s n t
  rw [h]
@[simp] theorem endOfWonNotice_ticks (n : Notice) (t : Option StationSet) : (s.endOfWonNotice n t).ticks = s.ticks := by
  obtain ⟨_, _, _, h⟩ := endOfWonNotice_frame s n t
  rw [h]
@[simp] theorem endOfWonNotice_station (n : Notice) (t : Option StationSet) : (s.endOfWonNotice n t).station = s.station := by
  obtain ⟨_, _, _, h⟩ := endOfWonNotice_frame s n t
  rw [h]
@[simp] theorem endOfWonNotice_map (n : Notice) (t : Option StationSet) : (s.endOfWonNotice n t).map = s.map := by
  obtain ⟨_, _, _, h⟩ := endOfWonNotice_frame s n t
  rw [h]
@[simp] theorem endOfWonNotice_detectors (n : Notice) (t : Option StationSet) : (s.endOfWonNotice n t).detectors = s.detectors := by
  obtain ⟨_, _, _, h⟩ := endOfWonNotice_frame s n t
  rw [h]
@[simp] theorem endOfWonNotice_lane (n : Notice) (t : Option StationSet) : (s.endOfWonNotice n t).lane = s.lane := by
  obtain ⟨_, _, _, h⟩ := endOfWonNotice_frame s n t
  rw [h]
@[simp] theorem endOfWonNotice_groups (n : Notice) (t : Option StationSet) : (s.endOfWonNotice n t).groups = s.groups := by
  obtain ⟨_, _, _, h⟩ := endOfWonNotice_frame s n t
  rw [h]
@[simp] theorem endOfWonNotice_engine (n : Notice) (t : Option StationSet) : (s.endOfWonNotice n t).engine = s.engine := by
  obtain ⟨_, _, _, h⟩ := endOfWonNotice_frame s n t
  rw [h]
@[simp] theorem endOfWonNotice_lookup (n : Notice) (t : Option StationSet) : (s.endOfWonNotice n t).lookup = s.lookup := by
  obtain ⟨_, _, _, h⟩ := endOfWonNotice_frame s n t
  rw [h]
@[simp] theorem endOfWonNotice_invalidation (n : Notice) (t : Option StationSet) : (s.endOfWonNotice n t).invalidation = s.invalidation := by
  obtain ⟨_, _, _, h⟩ := endOfWonNotice_frame s n t
  rw [h]
@[simp] theorem endOfWonNotice_port (n : Notice) (t : Option StationSet) : (s.endOfWonNotice n t).port = s.port := by
  obtain ⟨_, _, _, h⟩ := endOfWonNotice_frame s n t
  rw [h]

/-! ### wonNoticeEnds -/

@[simp] theorem wonNoticeEnds_pending (n : Notice) (t : Option StationSet) : (s.wonNoticeEnds n t).pending = s.pending := by
  obtain ⟨_, _, _, _, h⟩ := wonNoticeEnds_frame s n t
  rw [h]
@[simp] theorem wonNoticeEnds_pins (n : Notice) (t : Option StationSet) : (s.wonNoticeEnds n t).pins = s.pins := by
  obtain ⟨_, _, _, _, h⟩ := wonNoticeEnds_frame s n t
  rw [h]
@[simp] theorem wonNoticeEnds_drawn (n : Notice) (t : Option StationSet) : (s.wonNoticeEnds n t).drawn = s.drawn := by
  obtain ⟨_, _, _, _, h⟩ := wonNoticeEnds_frame s n t
  rw [h]
@[simp] theorem wonNoticeEnds_rstHeld (n : Notice) (t : Option StationSet) : (s.wonNoticeEnds n t).rstHeld = s.rstHeld := by
  obtain ⟨_, _, _, _, h⟩ := wonNoticeEnds_frame s n t
  rw [h]
@[simp] theorem wonNoticeEnds_ticks (n : Notice) (t : Option StationSet) : (s.wonNoticeEnds n t).ticks = s.ticks := by
  obtain ⟨_, _, _, _, h⟩ := wonNoticeEnds_frame s n t
  rw [h]
@[simp] theorem wonNoticeEnds_station (n : Notice) (t : Option StationSet) : (s.wonNoticeEnds n t).station = s.station := by
  obtain ⟨_, _, _, _, h⟩ := wonNoticeEnds_frame s n t
  rw [h]
@[simp] theorem wonNoticeEnds_map (n : Notice) (t : Option StationSet) : (s.wonNoticeEnds n t).map = s.map := by
  obtain ⟨_, _, _, _, h⟩ := wonNoticeEnds_frame s n t
  rw [h]
@[simp] theorem wonNoticeEnds_detectors (n : Notice) (t : Option StationSet) : (s.wonNoticeEnds n t).detectors = s.detectors := by
  obtain ⟨_, _, _, _, h⟩ := wonNoticeEnds_frame s n t
  rw [h]
@[simp] theorem wonNoticeEnds_groups (n : Notice) (t : Option StationSet) : (s.wonNoticeEnds n t).groups = s.groups := by
  obtain ⟨_, _, _, _, h⟩ := wonNoticeEnds_frame s n t
  rw [h]
@[simp] theorem wonNoticeEnds_engine (n : Notice) (t : Option StationSet) : (s.wonNoticeEnds n t).engine = s.engine := by
  obtain ⟨_, _, _, _, h⟩ := wonNoticeEnds_frame s n t
  rw [h]
@[simp] theorem wonNoticeEnds_lookup (n : Notice) (t : Option StationSet) : (s.wonNoticeEnds n t).lookup = s.lookup := by
  obtain ⟨_, _, _, _, h⟩ := wonNoticeEnds_frame s n t
  rw [h]
@[simp] theorem wonNoticeEnds_invalidation (n : Notice) (t : Option StationSet) : (s.wonNoticeEnds n t).invalidation = s.invalidation := by
  obtain ⟨_, _, _, _, h⟩ := wonNoticeEnds_frame s n t
  rw [h]
@[simp] theorem wonNoticeEnds_port (n : Notice) (t : Option StationSet) : (s.wonNoticeEnds n t).port = s.port := by
  obtain ⟨_, _, _, _, h⟩ := wonNoticeEnds_frame s n t
  rw [h]

/-! ### takeNotice -/

@[simp] theorem takeNotice_pending (n : RxNotice) : (s.takeNotice n).pending = s.pending := by
  obtain ⟨_, _, _, _, h⟩ := takeNotice_frame s n
  rw [h]
@[simp] theorem takeNotice_pins (n : RxNotice) : (s.takeNotice n).pins = s.pins := by
  obtain ⟨_, _, _, _, h⟩ := takeNotice_frame s n
  rw [h]
@[simp] theorem takeNotice_drawn (n : RxNotice) : (s.takeNotice n).drawn = s.drawn := by
  obtain ⟨_, _, _, _, h⟩ := takeNotice_frame s n
  rw [h]
@[simp] theorem takeNotice_rstHeld (n : RxNotice) : (s.takeNotice n).rstHeld = s.rstHeld := by
  obtain ⟨_, _, _, _, h⟩ := takeNotice_frame s n
  rw [h]
@[simp] theorem takeNotice_ticks (n : RxNotice) : (s.takeNotice n).ticks = s.ticks := by
  obtain ⟨_, _, _, _, h⟩ := takeNotice_frame s n
  rw [h]
@[simp] theorem takeNotice_station (n : RxNotice) : (s.takeNotice n).station = s.station := by
  obtain ⟨_, _, _, _, h⟩ := takeNotice_frame s n
  rw [h]
@[simp] theorem takeNotice_detectors (n : RxNotice) : (s.takeNotice n).detectors = s.detectors := by
  obtain ⟨_, _, _, _, h⟩ := takeNotice_frame s n
  rw [h]
@[simp] theorem takeNotice_lane (n : RxNotice) : (s.takeNotice n).lane = s.lane := by
  obtain ⟨_, _, _, _, h⟩ := takeNotice_frame s n
  rw [h]
@[simp] theorem takeNotice_announcer (n : RxNotice) : (s.takeNotice n).announcer = s.announcer := by
  obtain ⟨_, _, _, _, h⟩ := takeNotice_frame s n
  rw [h]
@[simp] theorem takeNotice_groups (n : RxNotice) : (s.takeNotice n).groups = s.groups := by
  obtain ⟨_, _, _, _, h⟩ := takeNotice_frame s n
  rw [h]
@[simp] theorem takeNotice_lookup (n : RxNotice) : (s.takeNotice n).lookup = s.lookup := by
  obtain ⟨_, _, _, _, h⟩ := takeNotice_frame s n
  rw [h]
@[simp] theorem takeNotice_invalidation (n : RxNotice) : (s.takeNotice n).invalidation = s.invalidation := by
  obtain ⟨_, _, _, _, h⟩ := takeNotice_frame s n
  rw [h]
@[simp] theorem takeNotice_port (n : RxNotice) : (s.takeNotice n).port = s.port := by
  obtain ⟨_, _, _, _, h⟩ := takeNotice_frame s n
  rw [h]

/-! ### takeForeign -/

@[simp] theorem takeForeign_pending (n : RxNotice) : (s.takeForeign n).pending = s.pending := by
  obtain ⟨_, _, _, _, h⟩ := takeForeign_frame s n
  rw [h]
@[simp] theorem takeForeign_pins (n : RxNotice) : (s.takeForeign n).pins = s.pins := by
  obtain ⟨_, _, _, _, h⟩ := takeForeign_frame s n
  rw [h]
@[simp] theorem takeForeign_drawn (n : RxNotice) : (s.takeForeign n).drawn = s.drawn := by
  obtain ⟨_, _, _, _, h⟩ := takeForeign_frame s n
  rw [h]
@[simp] theorem takeForeign_rstHeld (n : RxNotice) : (s.takeForeign n).rstHeld = s.rstHeld := by
  obtain ⟨_, _, _, _, h⟩ := takeForeign_frame s n
  rw [h]
@[simp] theorem takeForeign_ticks (n : RxNotice) : (s.takeForeign n).ticks = s.ticks := by
  obtain ⟨_, _, _, _, h⟩ := takeForeign_frame s n
  rw [h]
@[simp] theorem takeForeign_station (n : RxNotice) : (s.takeForeign n).station = s.station := by
  obtain ⟨_, _, _, _, h⟩ := takeForeign_frame s n
  rw [h]
@[simp] theorem takeForeign_detectors (n : RxNotice) : (s.takeForeign n).detectors = s.detectors := by
  obtain ⟨_, _, _, _, h⟩ := takeForeign_frame s n
  rw [h]
@[simp] theorem takeForeign_lane (n : RxNotice) : (s.takeForeign n).lane = s.lane := by
  obtain ⟨_, _, _, _, h⟩ := takeForeign_frame s n
  rw [h]
@[simp] theorem takeForeign_announcer (n : RxNotice) : (s.takeForeign n).announcer = s.announcer := by
  obtain ⟨_, _, _, _, h⟩ := takeForeign_frame s n
  rw [h]
@[simp] theorem takeForeign_groups (n : RxNotice) : (s.takeForeign n).groups = s.groups := by
  obtain ⟨_, _, _, _, h⟩ := takeForeign_frame s n
  rw [h]
@[simp] theorem takeForeign_lookup (n : RxNotice) : (s.takeForeign n).lookup = s.lookup := by
  obtain ⟨_, _, _, _, h⟩ := takeForeign_frame s n
  rw [h]
@[simp] theorem takeForeign_invalidation (n : RxNotice) : (s.takeForeign n).invalidation = s.invalidation := by
  obtain ⟨_, _, _, _, h⟩ := takeForeign_frame s n
  rw [h]
@[simp] theorem takeForeign_port (n : RxNotice) : (s.takeForeign n).port = s.port := by
  obtain ⟨_, _, _, _, h⟩ := takeForeign_frame s n
  rw [h]

/-! ### fallSilent -/

@[simp] theorem fallSilent_pending (k : Fin 16) : (s.fallSilent k).pending = s.pending := by
  obtain ⟨_, _, _, _, h⟩ := fallSilent_frame s k
  rw [h]
@[simp] theorem fallSilent_pins (k : Fin 16) : (s.fallSilent k).pins = s.pins := by
  obtain ⟨_, _, _, _, h⟩ := fallSilent_frame s k
  rw [h]
@[simp] theorem fallSilent_drawn (k : Fin 16) : (s.fallSilent k).drawn = s.drawn := by
  obtain ⟨_, _, _, _, h⟩ := fallSilent_frame s k
  rw [h]
@[simp] theorem fallSilent_rstHeld (k : Fin 16) : (s.fallSilent k).rstHeld = s.rstHeld := by
  obtain ⟨_, _, _, _, h⟩ := fallSilent_frame s k
  rw [h]
@[simp] theorem fallSilent_ticks (k : Fin 16) : (s.fallSilent k).ticks = s.ticks := by
  obtain ⟨_, _, _, _, h⟩ := fallSilent_frame s k
  rw [h]
@[simp] theorem fallSilent_station (k : Fin 16) : (s.fallSilent k).station = s.station := by
  obtain ⟨_, _, _, _, h⟩ := fallSilent_frame s k
  rw [h]
@[simp] theorem fallSilent_detectors (k : Fin 16) : (s.fallSilent k).detectors = s.detectors := by
  obtain ⟨_, _, _, _, h⟩ := fallSilent_frame s k
  rw [h]
@[simp] theorem fallSilent_lane (k : Fin 16) : (s.fallSilent k).lane = s.lane := by
  obtain ⟨_, _, _, _, h⟩ := fallSilent_frame s k
  rw [h]
@[simp] theorem fallSilent_announcer (k : Fin 16) : (s.fallSilent k).announcer = s.announcer := by
  obtain ⟨_, _, _, _, h⟩ := fallSilent_frame s k
  rw [h]
@[simp] theorem fallSilent_groups (k : Fin 16) : (s.fallSilent k).groups = s.groups := by
  obtain ⟨_, _, _, _, h⟩ := fallSilent_frame s k
  rw [h]
@[simp] theorem fallSilent_lookup (k : Fin 16) : (s.fallSilent k).lookup = s.lookup := by
  obtain ⟨_, _, _, _, h⟩ := fallSilent_frame s k
  rw [h]
@[simp] theorem fallSilent_invalidation (k : Fin 16) : (s.fallSilent k).invalidation = s.invalidation := by
  obtain ⟨_, _, _, _, h⟩ := fallSilent_frame s k
  rw [h]
@[simp] theorem fallSilent_port (k : Fin 16) : (s.fallSilent k).port = s.port := by
  obtain ⟨_, _, _, _, h⟩ := fallSilent_frame s k
  rw [h]

/-! ### writeSentEpochs -/

@[simp] theorem writeSentEpochs_pending : s.writeSentEpochs.pending = s.pending := by
  obtain ⟨_, h⟩ := writeSentEpochs_frame s
  rw [h]
@[simp] theorem writeSentEpochs_pins : s.writeSentEpochs.pins = s.pins := by
  obtain ⟨_, h⟩ := writeSentEpochs_frame s
  rw [h]
@[simp] theorem writeSentEpochs_drawn : s.writeSentEpochs.drawn = s.drawn := by
  obtain ⟨_, h⟩ := writeSentEpochs_frame s
  rw [h]
@[simp] theorem writeSentEpochs_rstHeld : s.writeSentEpochs.rstHeld = s.rstHeld := by
  obtain ⟨_, h⟩ := writeSentEpochs_frame s
  rw [h]
@[simp] theorem writeSentEpochs_ticks : s.writeSentEpochs.ticks = s.ticks := by
  obtain ⟨_, h⟩ := writeSentEpochs_frame s
  rw [h]
@[simp] theorem writeSentEpochs_station : s.writeSentEpochs.station = s.station := by
  obtain ⟨_, h⟩ := writeSentEpochs_frame s
  rw [h]
@[simp] theorem writeSentEpochs_map : s.writeSentEpochs.map = s.map := by
  obtain ⟨_, h⟩ := writeSentEpochs_frame s
  rw [h]
@[simp] theorem writeSentEpochs_detectors : s.writeSentEpochs.detectors = s.detectors := by
  obtain ⟨_, h⟩ := writeSentEpochs_frame s
  rw [h]
@[simp] theorem writeSentEpochs_lane : s.writeSentEpochs.lane = s.lane := by
  obtain ⟨_, h⟩ := writeSentEpochs_frame s
  rw [h]
@[simp] theorem writeSentEpochs_roster : s.writeSentEpochs.roster = s.roster := by
  obtain ⟨_, h⟩ := writeSentEpochs_frame s
  rw [h]
@[simp] theorem writeSentEpochs_groups : s.writeSentEpochs.groups = s.groups := by
  obtain ⟨_, h⟩ := writeSentEpochs_frame s
  rw [h]
@[simp] theorem writeSentEpochs_engine : s.writeSentEpochs.engine = s.engine := by
  obtain ⟨_, h⟩ := writeSentEpochs_frame s
  rw [h]
@[simp] theorem writeSentEpochs_lookup : s.writeSentEpochs.lookup = s.lookup := by
  obtain ⟨_, h⟩ := writeSentEpochs_frame s
  rw [h]
@[simp] theorem writeSentEpochs_invalidation : s.writeSentEpochs.invalidation = s.invalidation := by
  obtain ⟨_, h⟩ := writeSentEpochs_frame s
  rw [h]
@[simp] theorem writeSentEpochs_port : s.writeSentEpochs.port = s.port := by
  obtain ⟨_, h⟩ := writeSentEpochs_frame s
  rw [h]
@[simp] theorem writeSentEpochs_events : s.writeSentEpochs.events = s.events := by
  obtain ⟨_, h⟩ := writeSentEpochs_frame s
  rw [h]

/-! ### offer -/

@[simp] theorem offer_pending (g : Fin 256) : (s.offer g).pending = s.pending := by
  obtain ⟨_, _, h⟩ := offer_frame s g
  rw [h]
@[simp] theorem offer_pins (g : Fin 256) : (s.offer g).pins = s.pins := by
  obtain ⟨_, _, h⟩ := offer_frame s g
  rw [h]
@[simp] theorem offer_drawn (g : Fin 256) : (s.offer g).drawn = s.drawn := by
  obtain ⟨_, _, h⟩ := offer_frame s g
  rw [h]
@[simp] theorem offer_rstHeld (g : Fin 256) : (s.offer g).rstHeld = s.rstHeld := by
  obtain ⟨_, _, h⟩ := offer_frame s g
  rw [h]
@[simp] theorem offer_ticks (g : Fin 256) : (s.offer g).ticks = s.ticks := by
  obtain ⟨_, _, h⟩ := offer_frame s g
  rw [h]
@[simp] theorem offer_station (g : Fin 256) : (s.offer g).station = s.station := by
  obtain ⟨_, _, h⟩ := offer_frame s g
  rw [h]
@[simp] theorem offer_map (g : Fin 256) : (s.offer g).map = s.map := by
  obtain ⟨_, _, h⟩ := offer_frame s g
  rw [h]
@[simp] theorem offer_detectors (g : Fin 256) : (s.offer g).detectors = s.detectors := by
  obtain ⟨_, _, h⟩ := offer_frame s g
  rw [h]
@[simp] theorem offer_lane (g : Fin 256) : (s.offer g).lane = s.lane := by
  obtain ⟨_, _, h⟩ := offer_frame s g
  rw [h]
@[simp] theorem offer_announcer (g : Fin 256) : (s.offer g).announcer = s.announcer := by
  obtain ⟨_, _, h⟩ := offer_frame s g
  rw [h]
@[simp] theorem offer_roster (g : Fin 256) : (s.offer g).roster = s.roster := by
  obtain ⟨_, _, h⟩ := offer_frame s g
  rw [h]
@[simp] theorem offer_groups (g : Fin 256) : (s.offer g).groups = s.groups := by
  obtain ⟨_, _, h⟩ := offer_frame s g
  rw [h]
@[simp] theorem offer_engine (g : Fin 256) : (s.offer g).engine = s.engine := by
  obtain ⟨_, _, h⟩ := offer_frame s g
  rw [h]
@[simp] theorem offer_lookup (g : Fin 256) : (s.offer g).lookup = s.lookup := by
  obtain ⟨_, _, h⟩ := offer_frame s g
  rw [h]
@[simp] theorem offer_port (g : Fin 256) : (s.offer g).port = s.port := by
  obtain ⟨_, _, h⟩ := offer_frame s g
  rw [h]

/-! ### commit -/

@[simp] theorem commit_pending (v : Evaluation) (r : Bool) : (s.commit v r).pending = s.pending := by
  obtain ⟨_, _, _, h⟩ := commit_frame s v r
  rw [h]
@[simp] theorem commit_pins (v : Evaluation) (r : Bool) : (s.commit v r).pins = s.pins := by
  obtain ⟨_, _, _, h⟩ := commit_frame s v r
  rw [h]
@[simp] theorem commit_drawn (v : Evaluation) (r : Bool) : (s.commit v r).drawn = s.drawn := by
  obtain ⟨_, _, _, h⟩ := commit_frame s v r
  rw [h]
@[simp] theorem commit_rstHeld (v : Evaluation) (r : Bool) : (s.commit v r).rstHeld = s.rstHeld := by
  obtain ⟨_, _, _, h⟩ := commit_frame s v r
  rw [h]
@[simp] theorem commit_ticks (v : Evaluation) (r : Bool) : (s.commit v r).ticks = s.ticks := by
  obtain ⟨_, _, _, h⟩ := commit_frame s v r
  rw [h]
@[simp] theorem commit_station (v : Evaluation) (r : Bool) : (s.commit v r).station = s.station := by
  obtain ⟨_, _, _, h⟩ := commit_frame s v r
  rw [h]
@[simp] theorem commit_map (v : Evaluation) (r : Bool) : (s.commit v r).map = s.map := by
  obtain ⟨_, _, _, h⟩ := commit_frame s v r
  rw [h]
@[simp] theorem commit_detectors (v : Evaluation) (r : Bool) : (s.commit v r).detectors = s.detectors := by
  obtain ⟨_, _, _, h⟩ := commit_frame s v r
  rw [h]
@[simp] theorem commit_lane (v : Evaluation) (r : Bool) : (s.commit v r).lane = s.lane := by
  obtain ⟨_, _, _, h⟩ := commit_frame s v r
  rw [h]
@[simp] theorem commit_announcer (v : Evaluation) (r : Bool) : (s.commit v r).announcer = s.announcer := by
  obtain ⟨_, _, _, h⟩ := commit_frame s v r
  rw [h]
@[simp] theorem commit_roster (v : Evaluation) (r : Bool) : (s.commit v r).roster = s.roster := by
  obtain ⟨_, _, _, h⟩ := commit_frame s v r
  rw [h]
@[simp] theorem commit_engine (v : Evaluation) (r : Bool) : (s.commit v r).engine = s.engine := by
  obtain ⟨_, _, _, h⟩ := commit_frame s v r
  rw [h]
@[simp] theorem commit_lookup (v : Evaluation) (r : Bool) : (s.commit v r).lookup = s.lookup := by
  obtain ⟨_, _, _, h⟩ := commit_frame s v r
  rw [h]
@[simp] theorem commit_port (v : Evaluation) (r : Bool) : (s.commit v r).port = s.port := by
  obtain ⟨_, _, _, h⟩ := commit_frame s v r
  rw [h]

/-! ### advance -/

@[simp] theorem advance_pending : s.advance.pending = s.pending := by
  obtain ⟨_, h⟩ := advance_frame s
  rw [h]
@[simp] theorem advance_pins : s.advance.pins = s.pins := by
  obtain ⟨_, h⟩ := advance_frame s
  rw [h]
@[simp] theorem advance_drawn : s.advance.drawn = s.drawn := by
  obtain ⟨_, h⟩ := advance_frame s
  rw [h]
@[simp] theorem advance_rstHeld : s.advance.rstHeld = s.rstHeld := by
  obtain ⟨_, h⟩ := advance_frame s
  rw [h]
@[simp] theorem advance_ticks : s.advance.ticks = s.ticks := by
  obtain ⟨_, h⟩ := advance_frame s
  rw [h]
@[simp] theorem advance_station : s.advance.station = s.station := by
  obtain ⟨_, h⟩ := advance_frame s
  rw [h]
@[simp] theorem advance_map : s.advance.map = s.map := by
  obtain ⟨_, h⟩ := advance_frame s
  rw [h]
@[simp] theorem advance_detectors : s.advance.detectors = s.detectors := by
  obtain ⟨_, h⟩ := advance_frame s
  rw [h]
@[simp] theorem advance_lane : s.advance.lane = s.lane := by
  obtain ⟨_, h⟩ := advance_frame s
  rw [h]
@[simp] theorem advance_announcer : s.advance.announcer = s.announcer := by
  obtain ⟨_, h⟩ := advance_frame s
  rw [h]
@[simp] theorem advance_roster : s.advance.roster = s.roster := by
  obtain ⟨_, h⟩ := advance_frame s
  rw [h]
@[simp] theorem advance_groups : s.advance.groups = s.groups := by
  obtain ⟨_, h⟩ := advance_frame s
  rw [h]
@[simp] theorem advance_lookup : s.advance.lookup = s.lookup := by
  obtain ⟨_, h⟩ := advance_frame s
  rw [h]
@[simp] theorem advance_invalidation : s.advance.invalidation = s.invalidation := by
  obtain ⟨_, h⟩ := advance_frame s
  rw [h]
@[simp] theorem advance_port : s.advance.port = s.port := by
  obtain ⟨_, h⟩ := advance_frame s
  rw [h]
@[simp] theorem advance_events : s.advance.events = s.events := by
  obtain ⟨_, h⟩ := advance_frame s
  rw [h]

/-! ### seeDominant -/

@[simp] theorem seeDominant_pending : s.seeDominant.pending = s.pending := rfl
@[simp] theorem seeDominant_pins : s.seeDominant.pins = s.pins := rfl
@[simp] theorem seeDominant_drawn : s.seeDominant.drawn = s.drawn := rfl
@[simp] theorem seeDominant_rstHeld : s.seeDominant.rstHeld = s.rstHeld := rfl
@[simp] theorem seeDominant_ticks : s.seeDominant.ticks = s.ticks := rfl
@[simp] theorem seeDominant_station : s.seeDominant.station = s.station := rfl
@[simp] theorem seeDominant_map : s.seeDominant.map = s.map := rfl
@[simp] theorem seeDominant_detectors : s.seeDominant.detectors = s.detectors := rfl
@[simp] theorem seeDominant_announcer : s.seeDominant.announcer = s.announcer := rfl
@[simp] theorem seeDominant_roster : s.seeDominant.roster = s.roster := rfl
@[simp] theorem seeDominant_groups : s.seeDominant.groups = s.groups := rfl
@[simp] theorem seeDominant_engine : s.seeDominant.engine = s.engine := rfl
@[simp] theorem seeDominant_lookup : s.seeDominant.lookup = s.lookup := rfl
@[simp] theorem seeDominant_invalidation : s.seeDominant.invalidation = s.invalidation := rfl
@[simp] theorem seeDominant_port : s.seeDominant.port = s.port := rfl
@[simp] theorem seeDominant_events : s.seeDominant.events = s.events := rfl

/-! ### releaseLane -/

@[simp] theorem releaseLane_pending : s.releaseLane.pending = s.pending := rfl
@[simp] theorem releaseLane_pins : s.releaseLane.pins = s.pins := rfl
@[simp] theorem releaseLane_drawn : s.releaseLane.drawn = s.drawn := rfl
@[simp] theorem releaseLane_rstHeld : s.releaseLane.rstHeld = s.rstHeld := rfl
@[simp] theorem releaseLane_ticks : s.releaseLane.ticks = s.ticks := rfl
@[simp] theorem releaseLane_station : s.releaseLane.station = s.station := rfl
@[simp] theorem releaseLane_map : s.releaseLane.map = s.map := rfl
@[simp] theorem releaseLane_detectors : s.releaseLane.detectors = s.detectors := rfl
@[simp] theorem releaseLane_announcer : s.releaseLane.announcer = s.announcer := rfl
@[simp] theorem releaseLane_roster : s.releaseLane.roster = s.roster := rfl
@[simp] theorem releaseLane_groups : s.releaseLane.groups = s.groups := rfl
@[simp] theorem releaseLane_engine : s.releaseLane.engine = s.engine := rfl
@[simp] theorem releaseLane_lookup : s.releaseLane.lookup = s.lookup := rfl
@[simp] theorem releaseLane_invalidation : s.releaseLane.invalidation = s.invalidation := rfl
@[simp] theorem releaseLane_port : s.releaseLane.port = s.port := rfl
@[simp] theorem releaseLane_events : s.releaseLane.events = s.events := rfl

/-! ### discard -/

@[simp] theorem discard_pending : s.discard.pending = s.pending := rfl
@[simp] theorem discard_pins : s.discard.pins = s.pins := rfl
@[simp] theorem discard_drawn : s.discard.drawn = s.drawn := rfl
@[simp] theorem discard_rstHeld : s.discard.rstHeld = s.rstHeld := rfl
@[simp] theorem discard_ticks : s.discard.ticks = s.ticks := rfl
@[simp] theorem discard_station : s.discard.station = s.station := rfl
@[simp] theorem discard_map : s.discard.map = s.map := rfl
@[simp] theorem discard_detectors : s.discard.detectors = s.detectors := rfl
@[simp] theorem discard_announcer : s.discard.announcer = s.announcer := rfl
@[simp] theorem discard_roster : s.discard.roster = s.roster := rfl
@[simp] theorem discard_groups : s.discard.groups = s.groups := rfl
@[simp] theorem discard_engine : s.discard.engine = s.engine := rfl
@[simp] theorem discard_lookup : s.discard.lookup = s.lookup := rfl
@[simp] theorem discard_invalidation : s.discard.invalidation = s.invalidation := rfl
@[simp] theorem discard_port : s.discard.port = s.port := rfl
@[simp] theorem discard_events : s.discard.events = s.events := rfl

/-! ### noticeOver -/

@[simp] theorem noticeOver_pending : s.noticeOver.pending = s.pending := rfl
@[simp] theorem noticeOver_pins : s.noticeOver.pins = s.pins := rfl
@[simp] theorem noticeOver_drawn : s.noticeOver.drawn = s.drawn := rfl
@[simp] theorem noticeOver_rstHeld : s.noticeOver.rstHeld = s.rstHeld := rfl
@[simp] theorem noticeOver_ticks : s.noticeOver.ticks = s.ticks := rfl
@[simp] theorem noticeOver_station : s.noticeOver.station = s.station := rfl
@[simp] theorem noticeOver_map : s.noticeOver.map = s.map := rfl
@[simp] theorem noticeOver_detectors : s.noticeOver.detectors = s.detectors := rfl
@[simp] theorem noticeOver_announcer : s.noticeOver.announcer = s.announcer := rfl
@[simp] theorem noticeOver_roster : s.noticeOver.roster = s.roster := rfl
@[simp] theorem noticeOver_groups : s.noticeOver.groups = s.groups := rfl
@[simp] theorem noticeOver_engine : s.noticeOver.engine = s.engine := rfl
@[simp] theorem noticeOver_lookup : s.noticeOver.lookup = s.lookup := rfl
@[simp] theorem noticeOver_invalidation : s.noticeOver.invalidation = s.invalidation := rfl
@[simp] theorem noticeOver_port : s.noticeOver.port = s.port := rfl
@[simp] theorem noticeOver_events : s.noticeOver.events = s.events := rfl

/-! ### startSeeking -/

@[simp] theorem startSeeking_pending : s.startSeeking.pending = s.pending := rfl
@[simp] theorem startSeeking_pins : s.startSeeking.pins = s.pins := rfl
@[simp] theorem startSeeking_drawn : s.startSeeking.drawn = s.drawn := rfl
@[simp] theorem startSeeking_rstHeld : s.startSeeking.rstHeld = s.rstHeld := rfl
@[simp] theorem startSeeking_ticks : s.startSeeking.ticks = s.ticks := rfl
@[simp] theorem startSeeking_station : s.startSeeking.station = s.station := rfl
@[simp] theorem startSeeking_map : s.startSeeking.map = s.map := rfl
@[simp] theorem startSeeking_detectors : s.startSeeking.detectors = s.detectors := rfl
@[simp] theorem startSeeking_announcer : s.startSeeking.announcer = s.announcer := rfl
@[simp] theorem startSeeking_roster : s.startSeeking.roster = s.roster := rfl
@[simp] theorem startSeeking_groups : s.startSeeking.groups = s.groups := rfl
@[simp] theorem startSeeking_engine : s.startSeeking.engine = s.engine := rfl
@[simp] theorem startSeeking_lookup : s.startSeeking.lookup = s.lookup := rfl
@[simp] theorem startSeeking_invalidation : s.startSeeking.invalidation = s.invalidation := rfl
@[simp] theorem startSeeking_port : s.startSeeking.port = s.port := rfl
@[simp] theorem startSeeking_events : s.startSeeking.events = s.events := rfl

end Sys2Proof.Machine.State
end

