-- ==== Sys2Proof/Laws/Detectors.lean ====
section
/-! SUPPORT. What a detector's transition does to the state, and the readings of small operands. -/

namespace Sys2Proof.Laws

open Sys2Proof.Machine

/-- Every local index is read from its own byte. -/
@[simp] theorem localIndexArg_idByte (i : Fin 4) : localIndexArg (idByte i) = some i := by
  fin_cases i <;> rfl

/-- Every uplink id is read from its own byte. -/
@[simp] theorem uplinkArg_idByte (u : Fin 64) : uplinkArg (idByte u) = some u := by
  have h : (idByte u).toNat = u.val := by simp [idByte]; omega
  simp [uplinkArg, h]

/-- A transition between detector states of one image changes the detector and nothing else (R4). -/
theorem transition_same_image (s : State) (i : Fin 4) (d : Detector) (c : FactorSet)
    (h : d.state.image = (s.detectors.get i).state.image) :
    s.transition i d c = { s with detectors := s.detectors.set i d } := by
  unfold State.transition
  simp only [h, if_true]
  rfl

/-- A transition to another image changes the own entry and its announce entry too, and the uplink joins the dirty set where
its usability changes (R4, R13, R65). -/
theorem transition_other_image (s : State) (i : Fin 4) (d : Detector) (c : FactorSet)
    (h : d.state.image ≠ (s.detectors.get i).state.image) :
    s.transition i d c =
      let u := uplinkId s.station.code i
      let changed : State := { s with
        detectors := s.detectors.set i d
        map := s.map.set u
          ⟨d.state.image, (s.map.get u).epoch + 1#8, .fromLocal, if d.state.image = .dark then c else 0#3, true, s.now⟩
        announcer := { s.announcer with
          entries := s.announcer.entries.modify i fun a => { a with state := .pending, sends := 0, heardBy := 0#16 } } }
      if (s.map.get u).state = .inService ↔ d.state.image = .inService then changed else changed.addDirty u := by
  unfold State.transition
  simp only [h, if_false]
  unfold State.changeOwn State.dirtyOnChange
  by_cases h1 : (s.map.get (uplinkId s.station.code i)).state = .inService <;>
    by_cases h2 : d.state.image = .inService <;>
    simp [h1, h2, State.ownUplink, Table.modify_eq, State.setEntry, State.setAnnounce, State.setDetector, State.now]

end Sys2Proof.Laws
end

