-- ==== Sys2Proof/Laws/PortPins.lean ====
section
/-! SUPPORT. What an edge at the management port can do, and how a frame's bits make its bytes. -/

namespace Sys2Proof.Machine

/-- The bits of a byte, most significant first, make that byte. -/
theorem byteOfBits_msbFirst : ∀ b : Byte, byteOfBits (msbFirst 8 b) = b := by decide +kernel

/-- Before a byte is whole a bit only joins it. -/
theorem takeBit_short (s : State) (bytes : List Byte) (bits : List Bool) (h : bits.length < 8) :
    takeBit s bytes bits = .next (s.withFrame (.opening bytes bits)) := by
  unfold takeBit
  rw [if_pos h]

/-- A whole byte is read: its command is taken, or more bytes have to come. -/
theorem takeBit_whole (s : State) (bytes : List Byte) (b : Byte) :
    takeBit s bytes (msbFirst 8 b) = match readFrame s.port.locked (bytes ++ [b]) with
      | some c => exec c s
      | none => .next (s.withFrame (.opening (bytes ++ [b]) [])) := by
  unfold takeBit
  rewrite [if_neg (by simp [msbFirst]), byteOfBits_msbFirst]
  rfl

/-- A bit before the command is taken moves the frame alone, or takes a command. -/
theorem takeBit_cases (s : State) (bytes : List Byte) (bits : List Bool) :
    (∃ f, takeBit s bytes bits = .next (s.withFrame f)) ∨ ∃ c, takeBit s bytes bits = exec c s := by
  unfold takeBit
  split
  · exact .inl ⟨_, rfl⟩
  · dsimp only
    split
    · exact .inr ⟨_, rfl⟩
    · exact .inl ⟨_, rfl⟩

/-- An edge moves the frame alone, or does what one command does. -/
theorem takePin_cases (edge : PortPin) (s : State) :
    (∃ f, takePin edge s = .next (s.withFrame f)) ∨ ∃ c, takePin edge s = exec c s := by
  have keep : s = s.withFrame s.port.frame := rfl
  cases edge with
  | mcsFall =>
    refine .inl ?_
    unfold takePin takeMcsFall
    dsimp only
    split
    · exact ⟨_, rfl⟩
    · split
      · exact ⟨_, rfl⟩
      all_goals exact ⟨_, congrArg _ keep⟩
  | mckRise mdi =>
    unfold takePin takeMckRise
    dsimp only
    split
    · exact .inl ⟨_, congrArg _ keep⟩
    · split
      · exact .inl ⟨_, congrArg _ keep⟩
      · exact .inl ⟨_, congrArg _ keep⟩
      · exact .inl ⟨_, congrArg _ keep⟩
      · exact takeBit_cases s _ _
  | mckFall =>
    refine .inl ?_
    unfold takePin takeMckFall
    dsimp only
    split
    · exact ⟨_, congrArg _ keep⟩
    · split
      · exact ⟨_, congrArg _ keep⟩
      · exact ⟨_, congrArg _ keep⟩
      · exact ⟨_, congrArg _ keep⟩
      · exact ⟨_, rfl⟩
  | mcsRise =>
    unfold takePin takeMcsRise
    dsimp only
    split
    · split
      · exact .inl ⟨_, rfl⟩
      · exact .inr ⟨_, rfl⟩
    all_goals exact .inl ⟨_, rfl⟩

end Sys2Proof.Machine
end

