-- ==== Sys2Proof/Tests/Slice0.lean ====
section
/-! SUPPORT. The model's own tests: ill-formed commands the check refuses, values the manual works out, one step of each kind,
and for each statement with premises a state and operands that meet them. -/

namespace Sys2Proof.Tests

open Sys2Proof.Machine

set_option Elab.async false

/-! ### Small states -/

/-- The state of the answer, where a command answers a next state. -/
def nextOf : Host.Outcome State Fault Refusal → Option State
  | .next s => some s
  | .fault _ => none
  | .refused _ => none

/-- A station in the mode `m` with the configuration lock as the mode has it. -/
def running (m : Mode) : State :=
  { State.reset with roster := { State.reset.roster with mode := m }, port := ⟨decide (m ≠ .offline), .closed⟩ }

/-- An enabled detector with the defaults of R22 in a state, with factors failing. -/
def detector (state : DetState) (failing : FactorSet) : Detector :=
  { Detector.reset false true with config := { UplinkConfig.reset with enabled := true }, state := state, failing := failing }

/-- An ACTIVE station with detector `i` replaced. -/
def watching (i : Fin 4) (d : Detector) : State := (running .active).setDetector i d

/-- An ACTIVE station whose peer 5 has its slot in a state, with its silence timer running. -/
def peered (state : SlotState) : State := (running .active).setSlot 5 ⟨state, some 100, 0, false, false, none⟩

/-- An ACTIVE station whose receiver follows a notice. -/
def following (s : State) : State := s.withLane { s.lane with rx := .receiving }

/-- A station with a transmitter and a captured notice. -/
def transmitting (m : Mode) (tx : TxState) (n : Option Notice) (faults : Nat) : State :=
  (running m).withLane { (running m).lane with tx := tx, captured := n, rx := .receiving, faults := faults }

/-- The manual's example notice (11): station 3 reports 3.1 DARK at epoch 2 with cause LOS. -/
def exampleNotice : Notice := ⟨.alert, 3, false, 0x1234#16, [⟨1, .dark, 2#8, 4#3⟩]⟩

/-- A notice of one record from peer 5 with fingerprint 0. -/
def peerNotice : RxNotice := (⟨.alert, 5, false, 0#16, [⟨2, .inService, 1#8, 0#3⟩]⟩ : Notice).wire

/-- The own notice of station 0 with fingerprint 0. -/
def ownNotice : RxNotice := (⟨.alert, 0, false, 0#16, [⟨2, .inService, 1#8, 0#3⟩]⟩ : Notice).wire

/-- The definition of group 40 of the manual's worked sequence (06). -/
def group40 : Group := .defined .revertive [[13, 29, 38], [20, 44]]

/-- An ACTIVE station with group 40 defined and in the member index. -/
def grouped : State :=
  { running .active with
    groups := State.reset.groups.set 40 group40
    engine := { Engine.reset with index := reindex Engine.reset.index 40 group40.allMembers } }

/-- Group 40 after evaluations against readings, one after another. -/
def group40After (readings : List (List (Fin 64))) : Group := readings.foldl (fun g r => g.evaluate r false) group40

/-- The counts of buckets on 13, 29, 38, 20 and 44. -/
def group40Holdings (g : Group) : List Nat := ([13, 29, 38, 20, 44] : List (Fin 64)).map (Group.holdings g.buckets)

/-- The reply in a frame whose command is taken. -/
def replyIn : Frame → Option (List Byte)
  | .taken reply _ => some reply
  | .closed | .waiting | .opening _ _ => none

/-- The reply a port command leaves. -/
def replyOf (c : Instr) (s : State) : Option (List Byte) := (nextOf (exec c s)).bind fun t => replyIn t.port.frame

/-- An Event Queue with `n` records of PEER_SILENT. -/
def queueOf (n : Nat) : EventQueue :=
  { EventQueue.reset with records := List.replicate n ⟨0#32, 9#8, .peerSilent .present⟩, trigger := .four }

/-- A released part with a frame in progress. -/
def inFrame (f : Frame) : State := { State.reset with port := ⟨false, f⟩ }

/-! ### Ill-formed commands -/

theorem test_wellFormed_refuses_known_code : (Instr.unknownCommand 5#8).wellFormed = false := by decide

theorem test_wellFormed_takes_unknown_code : (Instr.unknownCommand 6#8).wellFormed = true := by decide

theorem test_wellFormed_refuses_short_group : (Instr.writeGroup [40#8, 0#8]).wellFormed = false := by decide

theorem test_wellFormed_refuses_long_group : (Instr.writeGroup [40#8, 0#8, 1#8, 1#8, 13#8, 14#8]).wellFormed = false := by
  decide

theorem test_wellFormed_takes_whole_group : (Instr.writeGroup [40#8, 0#8, 1#8, 1#8, 13#8]).wellFormed = true := by decide

theorem test_wellFormed_refuses_record_past_count :
    (Instr.noticeDecision { peerNotice with r3 := ⟨1, .dark, 0#8, 0#3⟩ }).wellFormed = false := by decide +kernel

theorem test_wellFormed_takes_tidy_notice : (Instr.noticeDecision peerNotice).wellFormed = true := by decide +kernel

/-! ### Values the manual works out -/

/-- 11: fields 2 to 7 of the example, bit by bit. -/
theorem test_example_bits :
    noticeBits exampleNotice.kind.code 3 false 0#2 0x1234#16 exampleNotice.records =
      [false, false, false, false, true, true, false, false, false,
       false, false, false, true, false, false, true, false, false, false, true, true, false, true, false, false,
       false, true, false, true, false, false, false, false, false, false, true, false, true, false, false] := by
  decide +kernel

/-- R171: the CRC of the check string of the same generator and start value. -/
theorem test_crc_check_string :
    crcOf (([0x31#8, 0x32#8, 0x33#8, 0x34#8, 0x35#8, 0x36#8, 0x37#8, 0x38#8, 0x39#8] : List Byte).flatMap (msbFirst 8)) =
      0x29B1#16 := by decide +kernel

/-- 06, events 1 to 3 of the worked sequence. -/
theorem test_group40_events_1_to_3 :
    group40Holdings (group40After [[13, 29, 38, 20, 44]]) = [11, 11, 10, 0, 0] ∧
    group40Holdings (group40After [[13, 29, 38, 20, 44], [29, 38, 20, 44]]) = [0, 16, 16, 0, 0] ∧
    group40Holdings (group40After [[13, 29, 38, 20, 44], [29, 38, 20, 44], [29, 20, 44]]) = [0, 32, 0, 0, 0] := by
  decide +kernel

/-- 06, events 4 to 6 of the worked sequence, from event 3. -/
theorem test_group40_events_4_to_6 :
    (let g3 := group40After [[13, 29, 38, 20, 44], [29, 38, 20, 44], [29, 20, 44]]
     let g4 := g3.evaluate [29, 38, 20, 44] false
     let g5 := g4.evaluate [13, 29, 38, 20, 44] false
     let g6 := g5.evaluate [20, 44] false
     (group40Holdings g4, group40Holdings g5, group40Holdings g6, g4.condition, g5.condition, g6.current) =
       ([0, 22, 10, 0, 0], [11, 11, 10, 0, 0], [0, 0, 0, 16, 16], .partly, .full, some .t2)) := by decide +kernel

/-- 06, event 2: the buckets homed on 13 alternate between 38 and 29, the less loaded first. -/
theorem test_group40_event_2_buckets :
    (let g2 := group40After [[13, 29, 38, 20, 44], [29, 38, 20, 44]]
     ([0, 3, 6, 9, 12, 15, 18, 21, 24, 27, 30, 7] : List (Fin 32)).map g2.buckets.get =
       [some 38, some 29, some 38, some 29, some 38, some 29, some 38, some 29, some 38, some 29, some 38, some 29]) := by
  decide +kernel

/-- 06, event 9: no member usable. -/
theorem test_group40_event_9 :
    (let g := (group40After [[13, 29, 38, 20, 44]]).evaluate [] false
     (g.current, g.condition, g.buckets.get 7) = (none, .blackhole, none)) := by decide +kernel

/-- 09, frame 3: ten argument bytes, DONE, five references. -/
theorem test_frame_3_write_group :
    (nextOf (exec (.writeGroup [40#8, 0#8, 2#8, 3#8, 13#8, 29#8, 38#8, 2#8, 20#8, 44#8]) State.reset)).map
      (fun t => (replyIn t.port.frame, indexTotal t.engine.index, t.groups.get 40)) =
      some (some [0#8], 5, group40) := by decide +kernel

/-- 09, frame 4: a repeated member is BAD_ARGUMENT. -/
theorem test_frame_4_repeated_member :
    replyOf (.writeGroup [41#8, 0#8, 1#8, 3#8, 13#8, 29#8, 13#8]) State.reset = some [4#8] := by decide +kernel

/-- 09, frames 8 and 9: DRAIN in OFFLINE is WRONG_MODE, PROBE answers NOT_READY. -/
theorem test_frames_8_and_9 :
    replyOf (.drain 1#8) State.reset = some [2#8] ∧
    replyOf (.probe 40#8 4128#16) State.reset = some [0#8, 3#8, 0xFF#8, 0#8] := by decide +kernel

/-- 09, frames 11 and 12: LOCKED, and a BLACKHOLE group. -/
theorem test_frames_11_and_12 :
    replyOf (.writeGroup [42#8, 0#8, 1#8, 1#8, 13#8]) (running .joining) = some [1#8] ∧
    replyOf (.probe 40#8 4128#16) grouped = some [0#8, 1#8, 0xFF#8, 0#8] := by decide +kernel

/-- 10, events 1 and 5: three records below the level of 4 leave IRQ released, four assert it. -/
theorem test_irq_at_trigger_level :
    ((running .active).withEvents (queueOf 3)).irq = false ∧ ((running .active).withEvents (queueOf 4)).irq = true ∧
    (({ queueOf 3 with idleExpired := true } : EventQueue).push 0 ⟨0#32, 0#8, .uplinkAwaiting 1⟩).idleExpired = true ∧
    ((queueOf 32).push 0 ⟨0#32, 0#8, .uplinkAwaiting 1⟩).overflow = true := by decide +kernel

/-- 02: a failure in SERVING at Tq 100 µs goes to SUSPECT for 2000 bit times. -/
theorem test_los_rise_goes_to_suspect :
    (nextOf (exec (.losChange 1 true) (watching 1 (detector .serving 0#3)))).map
      (fun t => ((t.detectors.get 1).state, (t.detectors.get 1).qualify)) = some (.suspect, some 2000) := by decide +kernel

/-- R42, R43: START moves an enabled detector whose factors are good to RECOVERING with a hold of 8 times 125 ms. -/
theorem test_start_moves_good_detector :
    (nextOf (exec .start (State.reset.setDetector 1 (detector .disabled 0#3)))).map
      (fun t => ((t.detectors.get 1).state, (t.detectors.get 1).hold, (t.map.get 1).state, t.roster.mode)) =
      some (.recovering, some 20000000, .dark, .joining) := by decide +kernel

/-- A part whose MCS falls and which then gets the bits of these bytes on MDI, each with a whole period of MCK. -/
def framedIn (bytes : List Byte) (s : State) : Host.Outcome State Fault Refusal :=
  ((bytes.flatMap (msbFirst 8)).flatMap fun mdi => [.mckRise mdi, .mckFall]).foldl (fun o edge => match o with
    | .next s => takePin edge s
    | .fault f => .fault f
    | .refused r => .refused r) (takePin .mcsFall s)

/-- 09, frame 8: DRAIN of uplink 1 in OFFLINE, bit by bit, replies WRONG_MODE, its first bit on MDO after the last fall. -/
theorem test_drain_frame_bit_by_bit :
    (nextOf (framedIn [16#8, 1#8] State.reset)).map (fun t => (t.port.frame, t.mdo)) =
      some (.taken [2#8] 1, some false) := by decide +kernel

/-- R148: MDO holds until MCK falls, then each falling edge puts out one bit of the reply, then the filler; a rise moves
nothing. -/
theorem test_mdo_changes_at_the_fall :
    (List.range 10).map (fun n => (inFrame (.taken [2#8] n)).mdo) =
      [some true, some false, some false, some false, some false, some false, some false, some true, some false, some true] ∧
    (nextOf (takePin .mckFall (inFrame (.taken [2#8] 6)))).map (fun t => (t.port.frame.phase, t.mdo)) =
      some (some .reply, some true) ∧
    (nextOf (takePin (.mckRise true) (inFrame (.taken [2#8] 6)))).map (fun t => t.port.frame) = some (.taken [2#8] 6) := by
  decide +kernel

/-- R148: in ARGUMENTS MDO drives the filler, and outside a frame nothing. -/
theorem test_mdo_filler :
    (nextOf (framedIn [16#8] State.reset)).map (fun t => (t.port.frame.phase, t.mdo)) =
      some (some .arguments, some true) ∧ State.reset.mdo = none := by decide +kernel

/-- R149: a frame cut short in ARGUMENTS is discarded; MCS has to rise and fall after a release of RST with MCS low. -/
theorem test_frames_cut_and_waiting :
    (nextOf (framedIn [1#8, 0#8] State.reset)).bind (fun t => (nextOf (takeMcsRise t)).map (fun u => decide (u = State.reset))) =
      some true ∧
    (nextOf (takeMcsFall (inFrame .waiting))).map (fun t => t.port.frame) = some .waiting := by decide +kernel

/-- R28: a glitch that ends as the qualify timer would is one less than Tq long at most (log 31). -/
theorem test_glitch_is_shorter_than_tq :
    State.glitchDuration 25#32 0#32 .us25 = 24#32 ∧ State.glitchDuration 7#32 0#32 .us25 = 7#32 := by decide

/-- R58: LEAVE and REJOIN in a notice's tally window leave the own slot undriven. -/
theorem test_rejoin_drives_no_slot :
    (let s := (running .active).withLane { (running .active).lane with rx := .closing, slotPermitted := true }
     (s.drivesOwnSlot,
       ((nextOf (exec .leave s)).bind fun t => nextOf (exec .rejoin t)).map fun t => (t.roster.mode, t.drivesOwnSlot))) =
      (true, some (.joining, false)) := by decide +kernel

/-- R51: another station's dominant level in the tick of a won notice's end keeps the gap's later end. -/
theorem test_gap_waits_for_the_release :
    (let s := (transmitting .active .aborting (some exampleNotice) 0).seeDominant
     (nextOf (exec .abortPatternEnd s)).map fun t => t.lane.gapEnd) = some (some 13) := by decide +kernel

/-! ### Premises that can be met -/

theorem test_premises_StepTakesTheFrontCommand : ({ State.reset with pending := [.start, .leave] } : State).pending =
    .start :: [.leave] := rfl

theorem test_premises_EveryCommandAnswersANextState : ∀ straps : Fin 16, Instr.restart ≠ .fullReset straps := by decide

theorem test_premises_IdleStepTakesAnOwnEventOrTicks :
    State.reset.ownEvents = [] ∧ State.reset.pins = [] ∧
    ({ State.reset with pins := [.mcsFall, .mcsRise] } : State).pins = .mcsFall :: [.mcsRise] ∧
    ({ State.reset with lookup := ⟨[.take], none⟩ } : State).ownEvents = [.takeService] ∧
    2 ≤ (({ State.reset with lookup := ⟨[.take], none⟩ } : State).withEvents
      { State.reset.events with idleTimer := some 0 }).ownEvents.length ∧
    ({ State.reset with rstHeld := true } : State).rstHeld = true := by decide +kernel

theorem test_premises_IdleStepTakesAnOwnEventOrTicks_due :
    DueEvent { State.reset with lookup := ⟨[.take], none⟩ } .takeService ∧
    DueEvent (State.reset.withEvents { State.reset.events with idleTimer := some 0 }) .idleTimerExpiry := by
  constructor
  · refine Or.inr <| Or.inr <| Or.inr <| Or.inr <| Or.inr <| Or.inr <| Or.inr <| Or.inr <| Or.inr <| Or.inr <| Or.inr ?_
    exact ⟨rfl, [], rfl⟩
  · refine Or.inr <| Or.inr <| Or.inr <| Or.inr <| Or.inr <| Or.inr <| Or.inr <| Or.inr <| Or.inl ?_
    exact ⟨rfl, 0, rfl, Nat.zero_le _⟩

theorem test_premises_IdleStepTakesAnOwnEventOrTicks_edges :
    (inFrame .closed).port.frame = .closed ∧ (inFrame .waiting).port.frame ≠ .closed ∧
    (inFrame (.opening [] [true])).port.frame = .opening [] [true] ∧ ([true] : List Bool).length < 7 ∧
    ([false, false, false, false, false, true, false] : List Bool) ++ [true] =
      (List.range 8).map (fun k => (5#8 : Byte).getLsbD (7 - k)) ∧
    readFrame false ([] ++ [5#8]) = some .start ∧ readFrame false ([] ++ [16#8]) = none ∧
    (inFrame (.taken [0#8] 3)).port.frame = .taken [0#8] 3 := by decide +kernel

theorem test_premises_ResetStateIsAFullResetReleased :
    State.reset.pending = [] ∧ State.reset.pins = [] ∧ State.reset.drawn = 0 ∧ State.reset.port.frame = .closed ∧
    (∀ i : Fin 4, (State.reset.detectors.get i).losLine = false ∧ (State.reset.detectors.get i).lockLine = false) ∧
    (nextOf (exec (.fullReset 0) State.reset)).isSome = true := by decide +kernel

theorem test_premises_HeldPartTakesNothingUntilRelease :
    ({ State.reset with rstHeld := true } : State).rstHeld = true ∧
    ({ State.reset with rstHeld := true } : State).lookup.requests = [] ∧ State.reset.rstHeld = false ∧
    (State.reset.withEvents (queueOf 4)).events.trigger = .four ∧ State.reset.port.frame = .closed ∧
    (inFrame (.opening [1#8] [true])).port.frame = .opening [1#8] [true] ∧ ([true] : List Bool).length < 8 ∧
    (inFrame (.taken [0#8, 9#8] 0)).port.frame = .taken [0#8, 9#8] 0 ∧
    (inFrame (.taken [0#8, 9#8] 13)).port.frame = .taken [0#8, 9#8] (12 + 1) ∧ ([0#8, 9#8] : List Byte)[12 / 8]? = some 9#8 ∧
    8 * ([0#8, 9#8] : List Byte).length ≤ 16 := by decide +kernel

theorem test_premises_RefusedCommandsChangeNothing :
    (running .quiet).rstHeld = false ∧ commandCodes.contains 0#8 = false ∧ commandCodes.contains 255#8 = false ∧
    (running .joining).port.locked = true ∧ 4 ≤ (4#8).toNat ∧ State.reset.roster.mode = .offline ∧ (3#8).toNat < 4 ∧
    (running .isolated).roster.mode ≠ .offline ∧ (running .joining).roster.mode = .joining ∧
    ((running .active).groups.get (255#8).toFin).configured = false := by decide +kernel

theorem test_premises_RefusedCommandsChangeNothing_frames :
    commandCodes.contains 6#8 = false ∧ (1#8 : Byte) ∈ [1#8, 2#8, 3#8, 4#8] ∧ (4#8 : Byte) ∈ [1#8, 2#8, 3#8, 4#8] ∧
    (running .active).rstHeld = false ∧ (running .active).port.locked = true ∧
    readGroupFrame [40#8, 0#8, 1#8, 1#8] = .incomplete ∧ readGroupFrame [40#8, 2#8] = .badArgument := by decide +kernel

theorem test_premises_SetStationReplacesThreeSettings :
    State.reset.rstHeld = false ∧ State.reset.port.locked = false ∧ (running .quiet).port.locked = true ∧ 5 < (6#8).toNat ∧ (1#8).toNat < 2 ∧ 8 < (9#8).toNat ∧
    2 ≤ (2#8).toNat ∧ (8#8).toNat ≤ 8 ∧
    (5#8, BeaconPeriod.ms16) ∈ [(0#8, BeaconPeriod.ms0p5), (1#8, .ms1), (2#8, .ms2), (3#8, .ms4), (4#8, .ms8), (5#8, .ms16)] := by
  decide

theorem test_premises_SetUplinkReplacesSevenFields :
    ValidUplink ⟨0#8, 0#8, 0#8, 0#8, 1#16, 1#16, 1#8, 0#8⟩ ∧ ValidUplink ⟨3#8, 1#8, 7#8, 3#8, 4095#16, 4095#16, 32#8, 1#8⟩ ∧
    ¬ ValidUplink ⟨3#8, 1#8, 7#8, 3#8, 11#16, 10#16, 32#8, 1#8⟩ ∧ ¬ ValidUplink ⟨4#8, 0#8, 0#8, 0#8, 1#16, 1#16, 1#8, 0#8⟩ := by
  unfold ValidUplink
  decide

theorem test_premises_WriteGroupDefinesTheGroup :
    TierShape ([[13, 29, 38], [20, 44]] : List (List (Fin 64))) ∧
    TierShape ([[0, 1, 2, 3, 4, 5, 6, 7], [8], [63]] : List (List (Fin 64))) ∧
    ([[13, 29, 38], [20, 44]] : List (List (Fin 64))).flatten.Nodup ∧
    referencesAfter State.reset 255 5 ≤ 4096 := by
  unfold TierShape
  decide +kernel

theorem test_premises_WriteGroupRefusals :
    1 < (2#8).toNat ∧ (1#8).toNat ≤ 1 ∧ (0#8).toNat = 0 ∧ 3 < (4#8).toNat ∧ 8 < (9#8).toNat ∧
    ([] : List (List Byte)).length < (1#8).toNat ∧ ([[1#8], [2#8]] : List (List Byte)).length < (3#8).toNat ∧
    TierShape ([[64#8]] : List (List Byte)) ∧ (∃ m ∈ ([[64#8]] : List (List Byte)).flatten, 64 ≤ m.toNat) ∧
    TierShape ([[1#8], [1#8]] : List (List Byte)) ∧ ¬ ([[1#8], [1#8]] : List (List Byte)).flatten.Nodup ∧
    4 < (groupArgs 41#8 1#8 [[13#8, 29#8]]).length := by
  unfold TierShape
  decide +kernel

theorem test_premises_WriteGroupRefusals_index_full :
    4096 < referencesAfter
      { State.reset with engine := { Engine.reset with index := .fill (List.replicate 64 0) } } 7 1 := by decide +kernel

theorem test_premises_ClearGroupForgetsTheGroup : State.reset.rstHeld = false ∧ State.reset.port.locked = false := by
  decide +kernel

theorem test_premises_StartTakesTheStationToJoining : State.reset.rstHeld = false ∧ State.reset.roster.mode = .offline := by
  decide +kernel

theorem test_premises_RestartStartsTheStationAfresh :
    (transmitting .active .sending (some exampleNotice) 0).rstHeld = false ∧
    (transmitting .active .sending (some exampleNotice) 0).roster.mode ≠ .offline ∧
    (transmitting .active .sending (some exampleNotice) 0).lane.tx = .sending ∧
    (transmitting .joining .aborting none 0).lane.tx = .aborting := by decide +kernel

theorem test_premises_DrainAndUndrainByDetectorState :
    (running .active).rstHeld = false ∧ ((running .active).detectors.get 3).state = .disabled ∧
    ((watching 0 (detector .drained 0#3)).detectors.get 0).state = .drained ∧
    ((watching 0 (detector .drained 0#3)).detectors.get 0).failing = 0#3 ∧
    ((watching 3 (detector .drained 4#3)).detectors.get 3).failing ≠ 0#3 ∧
    ((watching 3 (detector .suspect 4#3)).detectors.get 3).state ≠ .drained := by decide +kernel

/-- A HELD detector in RECOVERING. -/
def heldDetector (awaiting : Bool) : Detector :=
  { detector .recovering 0#3 with
    awaiting := awaiting, hold := if awaiting then none else some 9
    config := { UplinkConfig.reset with enabled := true, clearMode := .held } }

theorem test_premises_ReleaseReturnsAnAwaitingUplink :
    ((watching 1 (detector .recovering 0#3)).detectors.get 1).config.clearMode = .auto ∧
    ((watching 1 (detector .dark 4#3)).detectors.get 1).state ≠ .recovering ∧
    ((watching 1 (heldDetector false)).detectors.get 1).config.clearMode = .held ∧
    ((watching 1 (heldDetector false)).detectors.get 1).awaiting = false ∧
    ((watching 1 (heldDetector true)).detectors.get 1).awaiting = true := by decide +kernel

theorem test_premises_ResteerQueuesAConfiguredGroup :
    grouped.rstHeld = false ∧ grouped.roster.mode ≠ .offline ∧ (grouped.groups.get (40#8).toFin).configured = true ∧
    (grouped.withEngine { grouped.engine with work := .resteer ⟨40, [], 8⟩ }).engine.work ≠ .idle := by decide +kernel

theorem test_premises_LeaveReleasesTheLane :
    (running .quiet).roster.mode = .quiet ∧ (running .joining).roster.mode = .joining ∧
    (running .isolated).roster.mode = .isolated ∧ (running .joining).lane.tx = .idle ∧
    (transmitting .active .sending (some exampleNotice) 0).lane.tx ≠ .idle := by decide +kernel

/-- An ISOLATED station whose cool-down runs. -/
def cooling : State := { running .isolated with roster := { (running .isolated).roster with cooldown := some 5 } }

theorem test_premises_RejoinAndCooldownEnterJoining :
    (running .quiet).rstHeld = false ∧ cooling.roster.mode = .isolated ∧ cooling.roster.cooldown.isSome = true := by
  decide +kernel

theorem test_premises_SetEventReportingReplacesBothSettings :
    State.reset.rstHeld = false ∧ 0#8 ∉ [1#8, 4#8, 8#8, 16#8] ∧ 17#8 ∉ [1#8, 4#8, 8#8, 16#8] ∧
    (16#8, TriggerLevel.sixteen) ∈ [(1#8, TriggerLevel.one), (4#8, .four), (8#8, .eight), (16#8, .sixteen)] := by decide

theorem test_premises_ReadEventsPopsTheOldest :
    (0#8).toNat = 0 ∧ 8 < (9#8).toNat ∧ 1 ≤ (1#8).toNat ∧ (8#8).toNat ≤ 8 ∧ State.reset.events.records = [] ∧
    (State.reset.withEvents (queueOf 1)).events.records ≠ [] := by decide +kernel

theorem test_premises_ReadMapReturnsAndClearsMarks :
    64 ≤ (64#8).toNat ∧ (64#8 : Byte) ≠ 255#8 ∧ 64 ≤ (254#8).toNat ∧ State.reset.rstHeld = false := by decide

theorem test_premises_ReadEventsPopsTheOldest_layout :
    (DetState.suspect, 2#8) ∈ detectorCodes ∧ (MapState.absent, 3#8) ∈ mapCodes ∧ (Origin.fromRoster, 2#8) ∈ originCodes ∧
    (SlotState.excluded, 4#8) ∈ slotCodes ∧ (Mode.isolated, 4#8) ∈ modeCodes ∧ (Tier.t3, 3#8) ∈ tierCodes ∧
    (Condition.blackhole, 3#8) ∈ conditionCodes := by decide

theorem test_premises_ReadMapReturnsAndClearsMarks_layout :
    (MapState.absent, 3#8) ∈ mapCodes ∧ (Origin.fromRoster, 2#8) ∈ originCodes ∧
    (State.reset.map.get 63).state = .absent ∧ (State.reset.map.get 63).origin = .fromRoster := by decide +kernel

theorem test_premises_ReadRosterAndReadGroupChangeNothing :
    State.reset.rstHeld = false ∧ (Mode.offline, 0#8) ∈ modeCodes ∧ State.reset.roster.mode = .offline ∧
    (State.reset.roster.slots.get 0).state = .self ∧ (SlotState.unknown, 0#8) ∈ slotCodes ∧
    (State.reset.roster.slots.get 15).state = .unknown ∧
    (State.reset.roster.slots.get 15).foreign.getD 0#16 = (0#8 : Byte) ++ (0#8 : Byte) ∧
    (Condition.blackhole, 3#8) ∈ conditionCodes ∧ (grouped.groups.get 40).condition = .blackhole ∧
    ((none : Option Tier), 0#8) ∈ [((none : Option Tier), 0#8), (some .t1, 1#8), (some .t2, 2#8), (some .t3, 3#8)] ∧
    (grouped.groups.get 40).current = none := by decide +kernel

/-- A station with one lookup of group 40 waiting. -/
def asked (s : State) : State := { s with lookup := ⟨[.lookup 40 4128#16], none⟩ }

/-- The grouped station after group 40's first evaluation. -/
def steered : State := { grouped with groups := grouped.groups.set 40 (group40After [[13, 29, 38, 20, 44]]) }

theorem test_premises_LookupAndProbeAnswerFromTheTable :
    (asked grouped).lookup.requests = .lookup (40#8).toFin 4128#16 :: [] ∧ (asked State.reset).roster.mode = .offline ∧
    ((asked (running .active)).groups.get (40#8).toFin).configured = false ∧
    ((asked grouped).groups.get (40#8).toFin).condition = .blackhole ∧
    ((asked steered).groups.get (40#8).toFin).configured = true ∧
    ((asked steered).groups.get (40#8).toFin).condition = .full ∧
    ((asked steered).groups.get (40#8).toFin).buckets.get 0 = some 13 ∧
    ((asked steered).groups.get (40#8).toFin).current = some .t1 ∧
    steered.rstHeld = false ∧ steered.lookup.requests = [] ∧ (running .active).rstHeld = false := by decide +kernel

theorem test_premises_RequestsAreTakenWhileReady :
    State.reset.rstHeld = false ∧ State.reset.lookup.requests.length < 4 ∧
    4 ≤ ({ State.reset with lookup := ⟨[.take, .take, .take, .take], none⟩ } : State).lookup.requests.length ∧
    (0x281020#24 : BitVec 24) = (40#8 : Byte) ++ (4128#16 : Half) := by decide +kernel

theorem test_premises_TakeAnswersFromTheInvalidationQueue :
    ({ State.reset with lookup := ⟨[.take], none⟩ } : State).lookup.requests = .take :: [] ∧
    ({ State.reset with invalidation := ⟨[], true⟩ } : State).invalidation.flushAll = true ∧
    ({ State.reset with invalidation := ⟨[5, 12], false⟩ } : State).invalidation = ⟨5 :: [12], false⟩ ∧
    State.reset.invalidation = ⟨[], false⟩ := by decide +kernel

theorem test_premises_OfferJoinsOrFlushesTheQueue :
    ({ State.reset with invalidation := ⟨[], true⟩ } : State).invalidation.flushAll = true ∧
    (40 : Fin 256) ∈ ({ State.reset with invalidation := ⟨[40], false⟩ } : State).invalidation.ids ∧
    (40 : Fin 256) ∉ State.reset.invalidation.ids ∧ State.reset.invalidation.ids.length < 16 ∧
    16 ≤ ({ State.reset with invalidation := ⟨(List.ofFn fun k : Fin 16 => k.castLE (by omega)), false⟩ } :
      State).invalidation.ids.length := by decide +kernel

/-- A detector whose qualify time is 0. -/
def promptDetector : Detector :=
  { detector .serving 0#3 with config := { UplinkConfig.reset with enabled := true, tq := .us0 } }

theorem test_premises_FactorFailureIsTakenByState :
    ((watching 1 (detector .dark 4#3)).detectors.get 1).failing.has FactorSet.los = true ∧
    ((watching 1 promptDetector).detectors.get 1).failing.has FactorSet.los = false ∧
    ((watching 1 promptDetector).detectors.get 1).config.tq = .us0 ∧
    ((watching 1 (detector .serving 0#3)).detectors.get 1).config.tq = .us100 ∧
    ((watching 1 (detector .suspect 2#3)).detectors.get 1).failing.has FactorSet.los = false ∧
    ((watching 1 (detector .recovering 0#3)).detectors.get 1).state = .recovering ∧
    ((watching 1 (detector .drained 0#3)).detectors.get 1).state = .drained := by decide +kernel

/-- A detector in SUSPECT with LOS failing and its record. -/
def suspectDetector : Detector := { detector .suspect 4#3 with qualify := some 2000, suspect := some ⟨0#32, 4#3⟩ }

theorem test_premises_AllGoodIsTakenByState :
    suspectDetector.failing.has FactorSet.los = true ∧ suspectDetector.failing &&& ~~~FactorSet.los = 0#3 ∧
    suspectDetector.suspect = some ⟨0#32, 4#3⟩ ∧ suspectDetector.state = .suspect ∧ (detector .dark 4#3).state = .dark ∧
    (detector .dark 6#3).failing &&& ~~~FactorSet.los ≠ 0#3 ∧ suspectDetector.failing.has FactorSet.lock = false ∧
    suspectDetector.config.tq = .us100 := by decide

theorem test_premises_LinesMoveTheirFactors :
    (detector .serving 0#3).state ≠ .disabled ∧ (detector .serving 0#3).config.mask.has FactorSet.los = true ∧
    (detector .serving 0#3).config.mask.has FactorSet.lock = true ∧ (Detector.reset false false).state = .disabled := by decide

/-- A detector that watches HB with the defaults, its last pulse at tick 0. -/
def beatingDetector : Detector :=
  { detector .serving 0#3 with
    config := { UplinkConfig.reset with enabled := true, mask := 7#3 }, lastPulse := some 0, watchdog := some 200000 }

/-- The station at a tick, with the beating detector at 2. -/
def beatingAt (t : Nat) : State := { watching 2 beatingDetector with ticks := t }

theorem test_premises_HeartbeatIsJudgedByItsWindow :
    beatingDetector.state ≠ .disabled ∧ beatingDetector.config.mask.has FactorSet.hb = true ∧
    (detector .serving 0#3).config.mask.has FactorSet.hb = false ∧ beatingDetector.lastPulse = some 0 ∧
    ({ beatingDetector with lastPulse := none } : Detector).lastPulse = none ∧
    beatingDetector.config.hbMin * 200 ≤ (beatingAt 2000).ticks - 0 ∧
    (beatingAt 200000).ticks - 0 ≤ beatingDetector.config.hbMax * 200 ∧
    (beatingAt 1999).ticks - 0 < beatingDetector.config.hbMin * 200 ∧
    beatingDetector.config.hbMax * 200 < (beatingAt 200001).ticks - 0 ∧ beatingDetector.watchdog.isSome = true := by decide

theorem test_premises_QualifyExpiryEntersDark :
    ((watching 1 suspectDetector).detectors.get 1).state = .suspect ∧
    ((watching 1 suspectDetector).detectors.get 1).qualify.isSome = true ∧
    ((watching 1 suspectDetector).detectors.get 1).failing ≠ 0#3 := by decide +kernel

theorem test_premises_HoldAndStabilityExpiries :
    (heldDetector false).state = .recovering ∧ (heldDetector false).awaiting = false ∧ (heldDetector false).hold.isSome = true ∧
    (heldDetector false).config.clearMode = .held ∧
    ({ heldDetector false with config := UplinkConfig.reset } : Detector).config.clearMode = .auto ∧
    ({ detector .serving 0#3 with stability := some 7 } : Detector).stability.isSome = true := by decide

theorem test_premises_QuietGapAndDominantLevel :
    State.reset.rstHeld = false ∧ State.reset.lane.tx = .idle ∧ State.reset.lane.rx ≠ .receiving ∧
    State.reset.lane.rx ≠ .closing ∧ (transmitting .active .aborting none 0).lane.tx ≠ .idle ∧
    (following (running .active)).lane.rx = .receiving ∧
    ((running .active).withLane { (running .active).lane with rx := .closing }).lane.rx = .closing := by decide +kernel

/-- A station that meets the five conditions of an offer. -/
def offering (due : Bool) : State :=
  let s := { running .active with announcer := { Announcer.reset with beaconDue := due } }
  (s.withLane { s.lane with rx := .ready, quiet := true }).setAnnounce 3
    ⟨if due then .clean else .pending, 0, 0#8, 0#16⟩

theorem test_premises_OfferCapturesTheNotice :
    (∀ due : Bool, (offering due).lane.tx = .idle ∧ (offering due).roster.mode = .active ∧ (offering due).lane.rx = .ready ∧
      (offering due).lane.quiet = true) ∧
    (offering true).announcer.beaconDue = true ∧
    (([0, 1, 2, 3] : List (Fin 4)).filter fun i =>
      decide (((offering true).announcer.entries.get i).state ≠ .clean)) = [] ∧
    (([0, 1, 2, 3] : List (Fin 4)).filter fun i =>
      decide (((offering false).announcer.entries.get i).state ≠ .clean)) = [3] ∧
    State.reset.lane.rx ≠ .ready := by decide +kernel

theorem test_premises_TransmitterMoves :
    (transmitting .active .arbitrating (some exampleNotice) 0).lane.tx = .arbitrating ∧
    (transmitting .active .sending (some exampleNotice) 0).lane.tx = .sending ∧
    (transmitting .active .aborting none 0).lane.tx = .aborting ∧
    (transmitting .active .aborting none 0).lane.captured = none := by decide +kernel

theorem test_premises_EndOfWonNoticeIsTakenWhole :
    EndsNotice (transmitting .active .closing (some exampleNotice) 7) (.noticeCompleted 1#16) exampleNotice (some 1#16) ∧
    ownHeard (transmitting .active .closing (some exampleNotice) 7) (some 1#16) = true ∧
    EndsNotice (transmitting .active .aborting (some exampleNotice) 6) .abortPatternEnd exampleNotice none ∧
    (transmitting .active .aborting (some exampleNotice) 6).lane.faults < 7 ∧
    (transmitting .quiet .aborting (some exampleNotice) 7).roster.mode ≠ .active := by
  refine ⟨⟨by decide +kernel, by decide, Or.inr ⟨_, rfl, by decide +kernel, rfl⟩⟩, by decide +kernel,
    ⟨by decide +kernel, by decide, Or.inl ⟨rfl, by decide +kernel, rfl⟩⟩, by decide +kernel, by decide +kernel⟩

theorem test_premises_EighthFaultIsolatesTheStation :
    EndsNotice (transmitting .active .closing (some exampleNotice) 7) (.noticeCompleted 2#16) exampleNotice (some 2#16) ∧
    ownHeard (transmitting .active .closing (some exampleNotice) 7) (some 2#16) = false ∧
    EndsNotice (transmitting .joining .aborting (some exampleNotice) 8) .abortPatternEnd exampleNotice none ∧
    ownHeard (transmitting .joining .aborting (some exampleNotice) 8) none = false ∧
    7 ≤ (transmitting .joining .aborting (some exampleNotice) 8).lane.faults := by
  refine ⟨⟨by decide +kernel, by decide, Or.inr ⟨_, rfl, by decide +kernel, rfl⟩⟩, by decide +kernel,
    ⟨by decide +kernel, by decide, Or.inl ⟨rfl, by decide +kernel, rfl⟩⟩, by decide +kernel, by decide +kernel⟩

theorem test_premises_BadNoticesReachNoOne :
    State.reset.lane.rx ≠ .receiving ∧ (following (running .active)).lane.rx = .receiving ∧
    ({ peerNotice with crc := 0#16 } : RxNotice).crcComputed ≠ 0#16 ∧
    (let bad : RxNotice := { peerNotice with pause := 1#2 }
     bad.crcComputed = bad.crc ∧ bad.pause ≠ 3#2) ∧
    (let twice : RxNotice := (⟨.alert, 5, false, 0#16, [⟨2, .dark, 1#8, 4#3⟩, ⟨2, .dark, 1#8, 4#3⟩]⟩ : Notice).wire
     twice.crcComputed = twice.crc ∧ ¬ (twice.records.map Record.index).Nodup) ∧
    (let odd : RxNotice := { peerNotice with
        kind := 3#2, crc := crcOf (noticeBits 3#2 5 false 0#2 0#16 [⟨2, .inService, 1#8, 0#3⟩]) }
     odd.crcComputed = odd.crc ∧ odd.kind = 3#2) := by decide +kernel

theorem test_premises_ForeignNoticeExcludesItsSender :
    (following (peered .present)).lane.rx = .receiving ∧ Good exampleNotice.wire ∧
    exampleNotice.wire.fingerprint ≠ (following (peered .present)).station.fingerprint ∧
    exampleNotice.wire.sender ≠ (following (peered .present)).station.code ∧
    ((following (peered .excluded)).roster.slots.get 5).state = .excluded ∧
    ((following (peered .present)).roster.slots.get 5).state ≠ .excluded ∧
    ownNotice.sender = (following (running .active)).station.code := by
  unfold Good
  decide +kernel

theorem test_premises_AcceptedNoticeIsHandedOn :
    (following (peered .silent)).lane.rx = .receiving ∧ Good peerNotice ∧ Good ownNotice ∧
    peerNotice.fingerprint = (following (peered .silent)).station.fingerprint ∧
    peerNotice.sender ≠ (following (peered .silent)).station.code ∧
    ((following (peered .silent)).roster.slots.get peerNotice.sender).state = .silent ∧
    ((following (peered .present)).roster.slots.get peerNotice.sender).state = .present := by
  unfold Good
  decide +kernel

theorem test_premises_RecordsAreAppliedByEpoch :
    (let distance (r old : Byte) := (r.toNat + 256 - old.toNat) % 256
     distance 7#8 7#8 = 0 ∧ 128 ≤ distance 128#8 0#8 ∧ 1 ≤ distance 0#8 255#8 ∧ distance 127#8 0#8 ≤ 127) ∧
    MapState.dark ≠ (State.reset.map.get 22).state ∧ (State.reset.map.get 22).state ≠ .inService ∧
    (⟨2, .inService, 1#8, 0#3⟩ : Record).state = .inService := by decide +kernel

theorem test_premises_ReceptionEndsByItsState :
    (following (running .active)).lane.rx = .receiving ∧
    ((running .active).withLane { (running .active).lane with rx := .closing }).lane.rx = .closing := by decide +kernel

theorem test_premises_SilenceMovesTheSlotToSilent :
    ((peered .joining).roster.slots.get 5).state = .joining ∧ ((peered .present).roster.slots.get 5).state = .present ∧
    ((peered .excluded).roster.slots.get 5).state = .excluded ∧
    ((peered .excluded).roster.slots.get 5).silence.isSome = true := by decide +kernel

theorem test_premises_RosterClaimMakesEntriesAbsent :
    ownerOf 23 ≠ 6 ∧ ((peered .present).setEntry 23 ⟨.inService, 1#8, .fromNotice, 0#3, true, 0#32⟩).map.get (uplinkId 5 3) =
      ⟨.inService, 1#8, .fromNotice, 0#3, true, 0#32⟩ ∧
    (∀ i : Fin 4, ((peered .present).map.get (uplinkId 5 i)).state ≠ .inService) ∧
    (grouped.withEngine { grouped.engine with work := .resteer ⟨40, [], 8⟩ }).engine.work ≠ .idle := by decide +kernel

/-- A JOINING station whose window is open, with peer 5 in a slot. -/
def windowed (joinedMe : Bool) : State :=
  let s := (running .joining).setSlot 5 ⟨.present, some 100, 0, false, joinedMe, none⟩
  { s with roster := { s.roster with joinWindow := some 9 } }

theorem test_premises_StationTimersExpire :
    (windowed true).roster.mode = .joining ∧ (windowed true).roster.joinWindow.isSome = true ∧
    (∀ k : Fin 16, ((windowed true).roster.slots.get k).state = .joining ∨ ((windowed true).roster.slots.get k).state = .present →
      ((windowed true).roster.slots.get k).deaf = true ∨ ((windowed true).roster.slots.get k).joinedMe = true) ∧
    ¬ (∀ k : Fin 16, ((windowed false).roster.slots.get k).state = .joining ∨
        ((windowed false).roster.slots.get k).state = .present →
      ((windowed false).roster.slots.get k).deaf = true ∨ ((windowed false).roster.slots.get k).joinedMe = true) ∧
    (State.reset.withEvents { State.reset.events with idleTimer := some 9 }).events.idleTimer.isSome = true ∧
    ({ State.reset with announcer := { State.reset.announcer with beaconTimer := some 9 } } :
      State).announcer.beaconTimer.isSome = true := by decide +kernel

/-- The grouped station in the sweep of 13, and of an uplink that names a second group. -/
def sweeping : State := grouped.withEngine { grouped.engine with work := .sweep 13 0 ⟨40, [], 8⟩ }

/-- The same sweep with another group after 40 in the list. -/
def sweepingTwo : State :=
  sweeping.withEngine { sweeping.engine with index := sweeping.engine.index.set 13 [40, 41] }

theorem test_premises_CommitAdvancesTheEngine :
    grouped.engine.work = .idle ∧ sweeping.engine.work = .sweep 13 0 ⟨40, [], 8⟩ ∧
    (sweeping.engine.index.get 13)[0 + 1]? = none ∧ (sweepingTwo.engine.index.get 13)[0 + 1]? = some 41 ∧
    (grouped.withEngine { grouped.engine with work := .resteer ⟨40, [], 8⟩ }).engine.work = .resteer ⟨40, [], 8⟩ := by
  decide +kernel

/-- The grouped station with uplink `u` dirty, and 13 usable. -/
def dirtied (u : Fin 64) : State :=
  (grouped.withEngine { grouped.engine with dirty := grouped.engine.dirty.set u true }).setEntry 13
    ⟨.inService, 1#8, .fromNotice, 0#3, true, 0#32⟩

theorem test_premises_SelectionTakesTheFirstThatExists :
    ChosenUplink (dirtied 63) 63 ∧ (dirtied 63).engine.index.get 63 = [] ∧
    ChosenUplink (dirtied 13) 13 ∧ (dirtied 13).engine.index.get 13 = 40 :: [] ∧ (dirtied 13).engine.work = .idle := by
  refine ⟨⟨by decide +kernel, (List.ofFn fun k : Fin 63 => k.castLE (by omega)), [], by decide +kernel, ?_⟩,
    by decide +kernel, ⟨by decide +kernel, (List.ofFn fun k : Fin 13 => k.castLE (by omega)),
      (List.ofFn fun k : Fin 50 => ⟨k.val + 14, by omega⟩), by decide +kernel, ?_⟩, by decide +kernel, by decide +kernel⟩
  · rw [if_neg (by decide +kernel)]
    decide +kernel
  · rw [if_pos (by decide +kernel)]
    decide +kernel

theorem test_premises_SelectionTakesTheFirstThatExists_resteer :
    (∀ v ∈ grouped.engine.ring, grouped.engine.dirty.get v = false) ∧
    (∀ g : Fin 256, grouped.engine.resteers.get g = false) ∧
    (grouped.engine.resteers.set 40 true).get 40 = true ∧
    (∀ h : Fin 256, h.val < 40 → (grouped.engine.resteers.set 40 true).get h = false) := by decide +kernel

theorem test_premises_EvaluationChoosesTheTier :
    (∀ t : Tier, t = .t1 ∨ t = .t2 ∨ t = .t3 → ¬ ∃ m ∈ group40.members t, m ∈ ([] : List (Fin 64))) ∧
    (∃ m ∈ group40.members .t2, m ∈ ([20, 44] : List (Fin 64))) ∧
    (¬ ∃ m ∈ group40.members .t1, m ∈ ([20, 44] : List (Fin 64))) ∧ group40.revert = .revertive ∧ group40.current = none ∧
    (group40.evaluate [20, 44] false).current = some .t2 ∧
    ({ group40 with revert := .sticky, current := some .t2 } : Group).revert = .sticky := by
  refine ⟨?_, by decide +kernel, by decide +kernel, rfl, rfl, by decide +kernel, rfl⟩
  intro t _ h
  obtain ⟨_, _, h⟩ := h
  exact absurd h (List.not_mem_nil)

theorem test_premises_EvaluationPlacesTheBuckets :
    (group40.evaluate [29, 38] false).current = some .t1 ∧
    (group40.members .t1)[(0 : Fin 32).val % (group40.members .t1).length]? = some 13 ∧
    (13 : Fin 64) ∉ ([29, 38] : List (Fin 64)) ∧ (29 : Fin 64) ∈ ([29, 38] : List (Fin 64)) ∧
    (group40After [[13, 29, 38]]).current = some .t1 ∧ (group40After [[13, 29, 38]]).buckets.get 1 = some 29 ∧
    (Table.fill none : Table (Option (Fin 64)) 32).get 0 = none ∧
    (∀ x ∈ ([38] : List (Fin 64)), (Table.fill none : Table (Option (Fin 64)) 32).cells.count (some 29) ≤
      (Table.fill none : Table (Option (Fin 64)) 32).cells.count (some x)) := by decide +kernel

theorem test_premises_EvaluationIsIdempotent : steered.groups.get 40 = group40.evaluate [13, 29, 38, 20, 44] false := by
  decide +kernel

theorem test_premises_PushJoinsTheTailOrOverflows :
    (State.reset.withEvents (queueOf 31)).events.records.length < 32 ∧
    32 ≤ (State.reset.withEvents (queueOf 32)).events.records.length := by decide +kernel

/-- The grouped station with detector 1 in its restore hold and the receiver seeking. -/
def steadyStation : State :=
  let s := (grouped.setDetector 1 { detector .recovering 0#3 with hold := some 9 }).setEntry 1
    ⟨.dark, 0#8, .fromLocal, 0#3, false, 0#32⟩
  s.withLane { s.lane with rx := .seeking }

theorem test_premises_StepKeepsQueuesAndEngine :
    WithinBounds steadyStation ∧ InvalidationLaw steadyStation ∧ EngineLaw steadyStation ∧
    (nextOf (step steadyStation)).isSome = true := by decide +kernel

theorem test_premises_StepKeepsLockAndRest :
    LockLaw steadyStation ∧ OfflineLaw steadyStation ∧ HeldLaw steadyStation := by decide +kernel

theorem test_premises_StepKeepsLockAndRest_frame : FrameLaw (inFrame (.opening [16#8] [true])) :=
  ⟨by decide +kernel, by decide, rfl⟩

theorem test_premises_StepKeepsMapInAgreement :
    SelfLaw steadyStation ∧ ImageLaw steadyStation ∧ AbsenceLaw steadyStation := by decide +kernel

theorem test_premises_StepKeepsDetectorsLawful : LockLaw steadyStation ∧ DetectorLaw steadyStation := by decide +kernel

theorem test_premises_StepKeepsAnnouncerLaneAndTimers :
    AnnounceLaw steadyStation ∧ LaneLaw steadyStation ∧ TimerLaw steadyStation := by decide +kernel

theorem test_steady_groups : ∀ g : Fin 256, (steadyStation.groups.get g).configured = true → g = 40 := by decide +kernel

theorem test_premises_StepKeepsSteeringLaws : SteeringInv steadyStation := by
  refine ⟨by decide +kernel, by decide +kernel, by decide +kernel, ?_, by decide +kernel, ?_, ?_, ?_, by decide +kernel⟩
  · intro u g
    have hu : ∀ u : Fin 64, steadyStation.engine.index.get u =
        if u ∈ (steadyStation.groups.get 40).allMembers then [40] else [] := by decide +kernel
    rw [hu u]
    constructor
    · intro h
      by_cases hm : u ∈ (steadyStation.groups.get 40).allMembers
      · rw [if_pos hm, List.mem_singleton] at h
        subst h
        exact ⟨by decide +kernel, hm⟩
      · rw [if_neg hm] at h
        exact absurd h List.not_mem_nil
    · rintro ⟨hc, hm⟩
      obtain rfl := test_steady_groups g hc
      rw [if_pos hm]
      exact List.mem_singleton_self 40
  · intro g h
    obtain rfl := test_steady_groups g h
    refine ⟨by decide +kernel, by decide +kernel, ?_⟩
    have hc : (steadyStation.groups.get 40).current = none := by decide +kernel
    rw [hc]
    refine ⟨by decide +kernel, ?_⟩
    have hu : ∀ m ∈ (steadyStation.groups.get 40).allMembers, steadyStation.usable m = false := by decide +kernel
    intro m hm hm'
    rw [hu m hm] at hm'
    cases hm'
  · have hw : steadyStation.engine.work = .idle := by decide +kernel
    intro ev hev
    rw [hw] at hev
    cases hev
  · have hw : steadyStation.engine.work = .idle := by decide +kernel
    intro u p ev hev
    rw [hw] at hev
    cases hev

end Sys2Proof.Tests
end

/-! SUPPORT. What a step can be: one command run, one edge that moves the frame alone, or a tick; and what it is for an
outcome to be a next state that has a property. -/

namespace Sys2Proof.Machine

/-- The outcome is a next state, and `p` holds of it. -/
def AnswersIn (o : Host.Outcome State Fault Refusal) (p : State → Prop) : Prop := ∃ t, o = .next t ∧ p t

@[simp] theorem answersIn_next {t : State} {p : State → Prop} : AnswersIn (.next t) p ↔ p t :=
  ⟨fun ⟨_, h, hp⟩ => by cases h; exact hp, fun h => ⟨t, rfl, h⟩⟩

theorem AnswersIn.of_eq_next {o : Host.Outcome State Fault Refusal} {p : State → Prop} {t : State} (h : AnswersIn o p)
    (ho : o = .next t) : p t := by
  subst ho
  exact answersIn_next.mp h

/-- A port command changes nothing, RST held, or has its effect (R149). -/
theorem answersIn_portCommand {s : State} {effect : State → State} {p : State → Prop} (held : p s)
    (taken : p (effect s)) : AnswersIn (portCommand s effect) p := by
  unfold portCommand
  rw [answersIn_next]
  split
  · exact held
  · exact taken

/-- A configuration command changes nothing, is refused, or has its effect (R151). -/
theorem answersIn_configure {s : State} {effect : State → State} {p : State → Prop} (held : p s)
    (refused : p (s.refuse .locked)) (taken : p (effect s)) : AnswersIn (configure s effect) p := by
  refine answersIn_portCommand held ?_
  split
  · exact refused
  · exact taken

/-- A command that names a detector changes nothing, is refused, or has its effect on that detector (R156). -/
theorem answersIn_detectorCommand {index : Byte} {s : State} {effect : State → Fin 4 → State} {p : State → Prop}
    (held : p s) (refused : ∀ status, p (s.refuse status)) (taken : ∀ i, p (effect s i)) :
    AnswersIn (detectorCommand index s effect) p := by
  refine answersIn_portCommand held ?_
  split
  · exact refused _
  · split
    · exact refused _
    · exact taken _

/-- The state with other commands and edges waiting, and another count of free choices drawn. -/
def State.queued (s : State) (pending : List Instr) (pins : List PortPin) (drawn : Nat) : State :=
  { s with pending := pending, pins := pins, drawn := drawn }

/-- The part's own step runs one command, the count of free choices moved on or not, or is a tick (log 1, log 2). -/
theorem ownStep_cases (s : State) :
    (∃ c drawn, ownStep s = exec c (s.queued s.pending s.pins drawn)) ∨ ownStep s = .next s.tick := by
  unfold ownStep
  split
  · exact .inr rfl
  · exact .inl ⟨_, s.drawn, rfl⟩
  · exact .inl ⟨_, s.drawn + 1, rfl⟩

/-- A step runs one command, moves the frame alone, or is a tick (log 1, log 29). -/
theorem step_cases (s : State) :
    (∃ c pending pins drawn, step s = exec c (s.queued pending pins drawn)) ∨
    (∃ f pins, step s = .next ((s.queued s.pending pins s.drawn).withFrame f)) ∨ step s = .next s.tick := by
  unfold step
  split
  · exact .inl ⟨_, _, s.pins, s.drawn, rfl⟩
  · unfold idleStep
    split
    · next edge rest _ =>
      obtain ⟨f, h⟩ | ⟨c, h⟩ := takePin_cases edge (s.queued s.pending rest s.drawn)
      · exact .inr (.inl ⟨f, rest, h⟩)
      · exact .inl ⟨c, _, _, _, h⟩
    · obtain ⟨c, drawn, h⟩ | h := ownStep_cases s
      · exact .inl ⟨c, _, _, drawn, h⟩
      · exact .inr (.inr h)

/-- What neither the queues, nor the frame, nor the clock decide is kept by every step, where every command keeps it. -/
theorem step_keeps {p : State → Prop} (queued : ∀ s pending pins drawn, p s → p (s.queued pending pins drawn))
    (framed : ∀ s f, p s → p (s.withFrame f)) (ticked : ∀ s, p s → p s.tick)
    (commands : ∀ c s, p s → AnswersIn (exec c s) p) {s : State} (h : p s) : AnswersIn (step s) p := by
  obtain ⟨c, pending, pins, drawn, hs⟩ | ⟨f, pins, hs⟩ | hs := step_cases s <;> rw [hs]
  · exact commands c _ (queued s _ _ _ h)
  · exact answersIn_next.mpr (framed _ f (queued s _ _ _ h))
  · exact answersIn_next.mpr (ticked s h)

end Sys2Proof.Machine

/-! SUPPORT. The map's rules: which entry each claim writes, and what it writes there. -/

namespace Sys2Proof.Machine

/-! ### Uplink ids -/

@[simp] theorem ownerOf_uplinkId (k : Fin 16) (i : Fin 4) : ownerOf (uplinkId k i) = k := by
  ext
  simp only [ownerOf, uplinkId]
  omega

@[simp] theorem localIndex_uplinkId (k : Fin 16) (i : Fin 4) : localIndex (uplinkId k i) = i := by
  ext
  simp only [localIndex, uplinkId]
  omega

@[simp] theorem uplinkId_ownerOf_localIndex (u : Fin 64) : uplinkId (ownerOf u) (localIndex u) = u := by
  ext
  simp only [localIndex, ownerOf, uplinkId]
  omega

@[simp] theorem uplinkId_inj {k l : Fin 16} {i j : Fin 4} : uplinkId k i = uplinkId l j ↔ k = l ∧ i = j :=
  ⟨fun h => ⟨by simpa using congrArg ownerOf h, by simpa using congrArg localIndex h⟩, fun ⟨hk, hi⟩ => by rw [hk, hi]⟩

theorem uplinkId_ne_of_owner {u : Fin 64} {k : Fin 16} (h : ownerOf u ≠ k) (i : Fin 4) : uplinkId k i ≠ u := by
  rintro rfl
  exact h (ownerOf_uplinkId k i)

namespace State

/-! ### The one entry that a claim writes -/

/-- A detector's claim writes its own entry (R4, R5). -/
theorem changeOwn_map (s : State) (i : Fin 4) (m : MapState) (c : FactorSet) :
    (s.changeOwn i m c).map = s.map.set (s.ownUplink i)
      ⟨m, (s.map.get (s.ownUplink i)).epoch + 1#8, .fromLocal, if m = .dark then c else 0#3, true, s.now⟩ := by
  simp [changeOwn]

/-- A change of a peer's entry writes that entry (R12). -/
theorem changePeer_map (s : State) (u : Fin 64) (m : MapState) (ep : Byte) (o : Origin) (c : FactorSet) :
    (s.changePeer u m ep o c).map = s.map.set u ⟨m, ep, o, c, true, s.now⟩ := by
  simp [changePeer]

/-- A record writes no entry but the one it names (R6). -/
theorem applyRecord_map_of_ne (un : Bool) (k : Fin 16) (s : State) (r : Record) {u : Fin 64} (h : uplinkId k r.index ≠ u) :
    (applyRecord un k s r).map.get u = s.map.get u := by
  unfold applyRecord
  dsimp only
  split
  · split
    · simp [Table.get_set_of_ne h]
    · simp [changePeer_map, Table.get_set_of_ne h]
  · rfl

theorem applyRecord_keeps_other_owners (un : Bool) (k : Fin 16) (s : State) (r : Record) {u : Fin 64} (h : ownerOf u ≠ k) :
    (applyRecord un k s r).map.get u = s.map.get u :=
  applyRecord_map_of_ne un k s r (uplinkId_ne_of_owner h r.index)

@[simp] theorem applyRecord_station (un : Bool) (k : Fin 16) (s : State) (r : Record) :
    (applyRecord un k s r).station = s.station := by
  obtain ⟨_, _, _, h⟩ := applyRecord_frame un k s r
  rw [h]

@[simp] theorem applyRecord_detectors (un : Bool) (k : Fin 16) (s : State) (r : Record) :
    (applyRecord un k s r).detectors = s.detectors := by
  obtain ⟨_, _, _, h⟩ := applyRecord_frame un k s r
  rw [h]

@[simp] theorem applyRecord_roster (un : Bool) (k : Fin 16) (s : State) (r : Record) :
    (applyRecord un k s r).roster = s.roster := by
  obtain ⟨_, _, _, h⟩ := applyRecord_frame un k s r
  rw [h]

/-! ### The roster's claim -/

/-- What the roster's claim at time `now` makes of an entry (R14). -/
def clearedEntry (now : Stamp) (e : MapEntry) : MapEntry :=
  if e.state = .absent then { e with epoch := 0#8 } else ⟨.absent, 0#8, .fromRoster, 0#3, true, now⟩

@[simp] theorem clearedEntry_state (now : Stamp) (e : MapEntry) : (clearedEntry now e).state = .absent := by
  unfold clearedEntry
  split
  · assumption
  · rfl

theorem clearEntry_map (s : State) (u : Fin 64) :
    (s.clearEntry u).map = s.map.set u (clearedEntry s.now (s.map.get u)) := by
  unfold clearEntry clearedEntry
  dsimp only
  split
  · rfl
  · exact changePeer_map ..

@[simp] theorem clearEntry_now (s : State) (u : Fin 64) : (s.clearEntry u).now = s.now := by
  simp only [now, clearEntry_ticks]

/-- The roster's claim on those of a peer's entries that `l` lists, in its order (R14). -/
def claimEntries (k : Fin 16) (l : List (Fin 4)) (s : State) : State := l.foldl (fun t i => t.clearEntry (uplinkId k i)) s

theorem rosterClaim_eq (s : State) (k : Fin 16) : s.rosterClaim k = claimEntries k [0, 1, 2, 3] s := rfl

@[simp] theorem claimEntries_nil (k : Fin 16) (s : State) : claimEntries k [] s = s := rfl

@[simp] theorem claimEntries_cons (k : Fin 16) (i : Fin 4) (l : List (Fin 4)) (s : State) :
    claimEntries k (i :: l) s = claimEntries k l (s.clearEntry (uplinkId k i)) := rfl

/-- The claim clears each entry listed, once, and leaves every other (R14). -/
theorem claimEntries_map_get (k : Fin 16) (l : List (Fin 4)) (hl : l.Nodup) (s : State) (u : Fin 64) :
    (claimEntries k l s).map.get u =
      if ∃ i ∈ l, uplinkId k i = u then clearedEntry s.now (s.map.get u) else s.map.get u := by
  induction l generalizing s with
  | nil => simp
  | cons i l ih =>
    obtain ⟨hi, hl⟩ := List.nodup_cons.mp hl
    rw [claimEntries_cons, ih hl, clearEntry_now, clearEntry_map]
    by_cases hu : uplinkId k i = u
    · subst hu
      simp [hi]
    · simp [Table.get_set_of_ne hu, hu]

/-- The roster's claim clears a peer's four entries and leaves every other station's (R14). -/
theorem rosterClaim_map_get (s : State) (k : Fin 16) (u : Fin 64) :
    (s.rosterClaim k).map.get u = if ownerOf u = k then clearedEntry s.now (s.map.get u) else s.map.get u := by
  rw [rosterClaim_eq, claimEntries_map_get k _ (by decide)]
  congr 1
  refine propext ⟨fun ⟨i, _, h⟩ => by simp [← h], fun h => ⟨localIndex u, ?_, by simp [← h]⟩⟩
  generalize localIndex u = i
  revert i
  decide

end State

end Sys2Proof.Machine

/-! SUPPORT. The map's agreement with the detectors and the roster (R3, R14, R92), and that every step keeps it. -/

namespace Sys2Proof.Machine

/-- The three laws that tie the map, the detectors and the roster together (R3, R14, R92). -/
structure Agreement (s : State) : Prop where
  self : SelfLaw s
  image : ImageLaw s
  absence : AbsenceLaw s

theorem unheard_congr {x y : Slot} (h : x.state = y.state) : State.unheard x = State.unheard y := by
  simp only [State.unheard, h]

namespace Agreement

variable {s t : State}

/-- The agreement speaks of the station code and of the states of entries, detectors and slots alone. -/
theorem of_same (hs : Agreement s) (code : t.station.code = s.station.code := by simp)
    (map : ∀ u, (t.map.get u).state = (s.map.get u).state := by simp)
    (detectors : ∀ i, (t.detectors.get i).state = (s.detectors.get i).state := by simp)
    (slots : ∀ k, (t.roster.slots.get k).state = (s.roster.slots.get k).state := by simp) : Agreement t where
  self k := by rw [slots, code]; exact hs.self k
  image i := by
    have h := hs.image i
    simp only [State.ownEntry, State.ownUplink] at h ⊢
    rw [code, map, detectors, h]
  absence k hk i := by
    rw [unheard_congr (slots k)] at hk
    rw [map]
    exact hs.absence k hk i

/-- The own slot is SELF, so its entries are not those of a peer that is not heard. -/
theorem heard_own (hs : Agreement s) : State.unheard (s.roster.slots.get s.station.code) = false := by
  have h := (hs.self s.station.code).mpr rfl
  simp [State.unheard, h]

/-! ### At the starts -/

theorem fullReset (code : Fin 16) (los lock : Fin 4 → Bool) (mcs held : Bool) (pending : List Instr) (pins : List PortPin)
    (drawn : Nat) : Agreement (.fullReset code los lock mcs held pending pins drawn) where
  self k := by
    simp only [State.fullReset, Roster.reset, Roster.resetSlots, Slot.reset, Table.get_tabulate, beq_iff_eq]
    split <;> simp_all
  image i := by simp [State.fullReset, State.ownEntry, MapEntry.reset, Detector.reset, DetState.image]
  absence k _ i := by simp [State.fullReset, MapEntry.reset]

theorem startedDetector_image (s : State) (d : Detector) :
    (s.startedDetector d).state.image = if d.config.enabled then .dark else .absent := by
  unfold State.startedDetector
  dsimp only
  split <;> rfl

/-- The move of R43 is one between states of the image DARK. -/
theorem settledDetector_image (s : State) (d : Detector) : (s.settledDetector d).state.image = d.state.image := by
  unfold State.settledDetector
  split
  · next h => rw [h.1]; rfl
  · rfl

/-- START and RESTART bring the map into agreement, whatever it was (R20, R42, R100). -/
theorem startingValues (s : State) : Agreement s.startingValues where
  self k := by
    simp only [State.startingValues, Roster.resetSlots, Slot.reset, Table.get_tabulate, beq_iff_eq]
    split <;> simp_all
  image i := by
    simp only [State.ownEntry, State.ownUplink, State.startingValues, Table.get_tabulate, settledDetector_image,
      startedDetector_image]
    simp [State.startedEntry, State.owns]
  absence k hk i := by
    have hne : k ≠ s.station.code := by
      rintro rfl
      simp [State.startingValues, Roster.resetSlots, Slot.reset, State.unheard] at hk
    simp [State.startingValues, State.startedEntry, State.owns, hne]

/-! ### Detectors -/

theorem push (hs : Agreement s) (subject : Byte) (d : Detail) : Agreement (s.push subject d) := hs.of_same

theorem withLane (hs : Agreement s) (l : Lane) : Agreement (s.withLane l) := hs.of_same

/-- A detector replaced by one of the same image keeps the agreement. -/
theorem setDetector (hs : Agreement s) {i : Fin 4} {d : Detector}
    (h : d.state.image = (s.detectors.get i).state.image) : Agreement (s.setDetector i d) where
  self := hs.self
  image j := by
    have hj := hs.image j
    simp only [State.setDetector_detectors, Table.get_set]
    split
    · next hij => subst hij; rw [h, ← hj]; rfl
    · exact hj
  absence := hs.absence

/-- A detector's transition takes its image to the own entry in the same step (R3, R4). -/
theorem transition (hs : Agreement s) (i : Fin 4) (d : Detector) (c : FactorSet) : Agreement (s.transition i d c) := by
  unfold State.transition
  dsimp only
  split
  · next h => exact hs.setDetector h
  · refine ⟨fun k => by simpa using hs.self k, fun j => ?_, fun k hk j => ?_⟩
    · have hj := hs.image j
      by_cases hij : i = j
      · subst hij
        simp [State.ownEntry, State.ownUplink, State.changeOwn_map]
      · simpa [State.ownEntry, State.ownUplink, State.changeOwn_map, Table.get_set, hij] using hj
    · have hk' : State.unheard (s.roster.slots.get k) = true := by simpa using hk
      have hne : s.station.code ≠ k := by
        rintro rfl
        simp [hs.heard_own] at hk'
      simpa [State.ownUplink, State.changeOwn_map, Table.get_set, hne] using hs.absence k hk' j

theorem startHold (hs : Agreement s) (i : Fin 4) : Agreement (s.startHold i) := hs.transition ..

theorem enterDark (hs : Agreement s) (i : Fin 4) : Agreement (s.enterDark i) := by
  unfold State.enterDark
  dsimp only
  split
  · exact ((hs.transition ..).push ..).startHold i
  · exact (hs.transition ..).push ..

theorem flap (hs : Agreement s) (i : Fin 4) : Agreement (s.flap i) := (hs.transition ..).push ..

theorem enterServing (hs : Agreement s) (i : Fin 4) (way : ReturnWay) : Agreement (s.enterServing i way) :=
  (hs.transition ..).push ..

theorem factorFailure (hs : Agreement s) (i : Fin 4) (f : FactorSet) : Agreement (s.factorFailure i f) := by
  unfold State.factorFailure
  dsimp only
  split
  · split
    · exact hs.enterDark i
    · exact hs.transition ..
  · exact hs.setDetector rfl
  · exact hs.flap i
  all_goals exact hs

theorem allGood (hs : Agreement s) (i : Fin 4) : Agreement (s.allGood i) := by
  unfold State.allGood
  dsimp only
  split
  · split
    · exact (hs.transition ..).push ..
    · exact hs.transition ..
  · exact hs.startHold i
  all_goals exact hs

theorem setFactor (hs : Agreement s) (i : Fin 4) (f : FactorSet) (bad : Bool) : Agreement (s.setFactor i f bad) := by
  have hd : Agreement (s.setDetector i { s.detectors.get i with failing := (s.detectors.get i).failing.put f bad }) :=
    hs.setDetector rfl
  unfold State.setFactor
  dsimp only
  split
  · exact hs
  · split
    · exact hd.factorFailure i f
    · split
      · exact hd.allGood i
      · exact hd

theorem undrain (hs : Agreement s) (i : Fin 4) : Agreement (s.undrain i) := by
  unfold State.undrain
  dsimp only
  split
  · exact hs.startHold i
  · exact hs.transition ..

/-! ### The roster -/

/-- A peer's slot replaced, its entries ABSENT where the peer is then not heard. -/
theorem setSlot (hs : Agreement s) {k : Fin 16} {x : Slot} (hk : k ≠ s.station.code) (hx : x.state ≠ .self)
    (absent : State.unheard x = true → ∀ i, (s.map.get (uplinkId k i)).state = .absent) : Agreement (s.setSlot k x) where
  self l := by
    have hl := hs.self l
    simp only [State.setSlot_roster, State.setSlot_station, Table.get_set]
    split
    · next h => subst h; simp [hx, hk]
    · exact hl
  image := hs.image
  absence l hl := by
    simp only [State.setSlot_roster, Table.get_set] at hl
    split at hl
    · next h => subst h; exact absent hl
    · exact hs.absence l hl

theorem testGuard (hs : Agreement s) : Agreement s.testGuard :=
  hs.of_same (slots := fun k => by unfold State.testGuard; split <;> simp [State.changeMode_frame])

/-- A peer lost, to SILENT or EXCLUDED: the roster's claim makes its entries ABSENT in the same step (R14, R95, R96). -/
theorem loseSlot (hs : Agreement s) {k : Fin 16} {x : Slot} (hk : k ≠ s.station.code) (hx : x.state ≠ .self)
    (subject : Byte) (d : Detail) : Agreement (((s.setSlot k x).push subject d).rosterClaim k) where
  self l := by
    have hl := hs.self l
    simp only [State.rosterClaim_roster, State.push_roster, State.setSlot_roster, State.rosterClaim_station,
      State.push_station, State.setSlot_station, Table.get_set]
    split
    · next h => subst h; simp [hx, hk]
    · exact hl
  image i := by
    have hi := hs.image i
    simpa [State.ownEntry, State.ownUplink, State.rosterClaim_map_get, hk.symm] using hi
  absence l hl i := by
    rw [State.rosterClaim_map_get, ownerOf_uplinkId]
    split
    · exact State.clearedEntry_state ..
    · next h =>
      refine hs.absence l ?_ i
      simpa [Table.get_set_of_ne (Ne.symm h)] using hl

theorem fallSilent (hs : Agreement s) {k : Fin 16} (hk : k ≠ s.station.code) : Agreement (s.fallSilent k) :=
  (hs.loseSlot hk (by simp [State.lostSlot]) _ _).testGuard

theorem takeForeign (hs : Agreement s) {n : RxNotice} (hn : n.sender ≠ s.station.code) : Agreement (s.takeForeign n) := by
  unfold State.takeForeign
  dsimp only
  split
  · next hx =>
    refine hs.setSlot hn (by simp [hx]) fun _ => hs.absence n.sender ?_
    simp [State.unheard, hx]
  · exact (hs.loseSlot hn (by simp [State.lostSlot]) _ _).testGuard

/-- A record of a peer that is heard writes neither an own entry nor one of a peer that is not heard (R6). -/
theorem applyRecord (hs : Agreement s) {k : Fin 16} (hk : k ≠ s.station.code)
    (heard : State.unheard (s.roster.slots.get k) = false) (un : Bool) (r : Record) :
    Agreement (State.applyRecord un k s r) where
  self l := by simpa using hs.self l
  image i := by
    have hi := hs.image i
    simpa [State.ownEntry, State.ownUplink, State.applyRecord_keeps_other_owners, hk.symm] using hi
  absence l hl i := by
    rw [State.applyRecord_roster] at hl
    have hne : l ≠ k := by
      rintro rfl
      simp [heard] at hl
    rw [State.applyRecord_keeps_other_owners un k s r (by simpa using hne)]
    exact hs.absence l hl i

theorem applyRecords (hs : Agreement s) {k : Fin 16} (hk : k ≠ s.station.code)
    (heard : State.unheard (s.roster.slots.get k) = false) (un : Bool) (l : List Record) :
    Agreement (l.foldl (State.applyRecord un k) s) := by
  induction l generalizing s with
  | nil => exact hs
  | cons r l ih => exact ih (hs.applyRecord hk heard un r) (by simpa using hk) (by simpa using heard)

theorem takeNotice (hs : Agreement s) {n : RxNotice} (hn : n.sender ≠ s.station.code) : Agreement (s.takeNotice n) := by
  generalize hy : s.heardSlot (s.roster.slots.get n.sender) n.join = y
  have heard : State.unheard y = false ∧ y.state ≠ .self := by
    subst hy
    cases n.join <;> simp [State.heardSlot, State.unheard]
  have hs1 : Agreement (s.setSlot n.sender y) := hs.setSlot hn heard.2 (by simp [heard.1])
  unfold State.takeNotice
  dsimp only
  rw [hy]
  split
  · exact (hs1.push ..).applyRecords hn (by simpa using heard.1) _ _
  · exact hs1.applyRecords hn (by simpa using heard.1) _ _

/-! ### The end of a won notice -/

theorem bookkeep (hs : Agreement s) (n : Notice) (tally : StationSet) (k : Fin 16) :
    Agreement (State.bookkeep n tally s k) := by
  have keep (x : Slot) (hx : x.state = (s.roster.slots.get k).state) : Agreement (s.setSlot k x) :=
    hs.of_same (slots := fun l => by
      rw [State.setSlot_roster, Table.get_set]
      split
      · next h => rw [hx, h]
      · rfl)
  unfold State.bookkeep
  dsimp only
  split
  · split
    · exact keep _ rfl
    · split
      · exact push (keep _ (by rfl)) _ _
      · exact keep _ rfl
  · exact hs

theorem endOfWonNotice (hs : Agreement s) (n : Notice) (tally : Option StationSet) :
    Agreement (s.endOfWonNotice n tally) := by
  have settled {x : State} (hx : Agreement x) : Agreement (n.carried.foldl (State.settleEntry (tally.getD 0#16)) x) := by
    obtain ⟨en, ev, h⟩ := State.settleAll_frame (tally.getD 0#16) x n.carried
    rw [h]
    exact hx.of_same
  unfold State.endOfWonNotice
  dsimp only
  cases tally with
  | none => exact (settled hs).of_same
  | some t =>
    have booked : Agreement (State.codes.foldl (State.bookkeep n t) s) :=
      List.foldlRecOn _ _ hs fun _ h k _ => h.bookkeep n t k
    exact (settled booked).of_same

theorem isolate (hs : Agreement s) : Agreement s.isolate := ⟨hs.self, hs.image, hs.absence⟩

theorem wonNoticeEnds (hs : Agreement s) (n : Notice) (tally : Option StationSet) : Agreement (s.wonNoticeEnds n tally) := by
  unfold State.wonNoticeEnds
  dsimp only
  generalize ({ s.lane with
    tx := TxState.idle, captured := none, tally := _, abortEnd := none, gapEnd := _, faults := _, flags := _ } : Lane) = l
  have hl : Agreement ((s.withLane l).endOfWonNotice n tally) := (hs.withLane l).endOfWonNotice n tally
  exact iteInduction (fun _ => hl.isolate) fun _ => hl.testGuard

/-! ### Reception -/

theorem receive (hs : Agreement s) (n : RxNotice) : Agreement (s.receive n) := by
  have flagged (f : LaneFlags) : Agreement (s.withFlags f) := hs.of_same
  have dropped (f : LaneFlags) : Agreement (s.withFlags f).discard := hs.of_same
  unfold State.receive
  dsimp only
  split
  · exact dropped _
  · exact dropped _
  · split
    · exact dropped _
    · next h => exact (dropped _).takeForeign h
  · have closing (f : LaneFlags) (l : Lane) : Agreement ((s.withFlags f).withLane l) := hs.of_same
    split
    · exact closing _ _
    · next h => exact (closing _ _).takeNotice h

end Agreement

end Sys2Proof.Machine

/-! SUPPORT. The agreement of map, detectors and roster after every command and every step. -/

namespace Sys2Proof.Machine

namespace Agreement

variable {s : State}

/-! ### Replies and modes -/

theorem replied (hs : Agreement s) (status : Status) (data : List Byte) : Agreement (s.replied status data) := hs.of_same

theorem refuse (hs : Agreement s) (status : Status) : Agreement (s.refuse status) := hs.replied status []

theorem done (hs : Agreement s) : Agreement s.done := hs.replied .done []

theorem enterJoining (hs : Agreement s) : Agreement s.enterJoining :=
  hs.of_same rfl (fun _ => rfl) (fun _ => rfl) (fun k => by simp [State.enterJoining])

theorem changeMode (hs : Agreement s) (m : Mode) (c : ModeCause) : Agreement (s.changeMode m c) :=
  ⟨hs.self, hs.image, hs.absence⟩

/-- The configuration lock is no part of the agreement. -/
theorem started (s : State) : Agreement s.started := by
  have entered : Agreement (s.startingValues.releaseLane.startSeeking.enterJoining.changeMode .joining .host) :=
    (((startingValues s).withLane _).withLane _).enterJoining.changeMode ..
  exact ⟨entered.self, entered.image, entered.absence⟩

theorem restartTransmitter (hs : Agreement s) : Agreement s.restartTransmitter := by
  unfold State.restartTransmitter
  split
  all_goals exact hs.withLane _

theorem restarted (s : State) : Agreement s.restarted :=
  ((startingValues s).restartTransmitter.withLane _).enterJoining.changeMode ..

theorem leave (hs : Agreement s) : Agreement s.leave := by
  unfold State.leave
  dsimp only
  split <;> exact ⟨hs.self, hs.image, hs.absence⟩

/-! ### The commands of the management port -/

theorem exec_unknownCommand (hs : Agreement s) (code : Byte) : AnswersIn (execUnknownCommand code s) Agreement :=
  answersIn_portCommand hs (hs.refuse _)

theorem exec_setStation (hs : Agreement s) (fingerprint : Half) (period silence : Byte) :
    AnswersIn (execSetStation fingerprint period silence s) Agreement := by
  refine answersIn_configure hs (hs.refuse _) ?_
  split
  · exact hs.of_same
  · exact hs.refuse _

theorem exec_setUplink (hs : Agreement s) (args : UplinkArgs) : AnswersIn (execSetUplink args s) Agreement := by
  refine answersIn_configure hs (hs.refuse _) ?_
  split
  · exact (hs.setDetector (by rfl)).done
  · exact hs.refuse _

theorem defineGroup (hs : Agreement s) (g : Fin 256) (revert : RevertMode) (tiers : List (List Byte)) :
    Agreement (s.defineGroup g revert tiers) := by
  unfold State.defineGroup
  split
  · exact hs.refuse _
  · split
    · split
      · exact hs.refuse _
      · exact hs.of_same
    · exact hs.refuse _

theorem exec_writeGroup (hs : Agreement s) (args : List Byte) : AnswersIn (execWriteGroup args s) Agreement := by
  refine answersIn_configure hs (hs.refuse _) ?_
  split
  · exact hs.of_same
  · exact hs.refuse _
  · exact hs.defineGroup ..

theorem exec_clearGroup (hs : Agreement s) (group : Byte) : AnswersIn (execClearGroup group s) Agreement := by
  refine answersIn_configure hs (hs.refuse _) ?_
  exact hs.of_same

theorem exec_start (hs : Agreement s) : AnswersIn (execStart s) Agreement := by
  refine answersIn_portCommand hs ?_
  split
  · exact (started s).done
  · exact hs.refuse _

theorem exec_restart (hs : Agreement s) : AnswersIn (execRestart s) Agreement := by
  refine answersIn_portCommand hs ?_
  split
  · exact hs.refuse _
  · exact (restarted s).done

theorem exec_drain (hs : Agreement s) (index : Byte) : AnswersIn (execDrain index s) Agreement := by
  refine answersIn_detectorCommand hs (hs.refuse ·) fun i => ?_
  split
  · exact hs.refuse _
  · exact hs.done
  all_goals exact (hs.transition ..).done

theorem exec_undrain (hs : Agreement s) (index : Byte) : AnswersIn (execUndrain index s) Agreement := by
  refine answersIn_detectorCommand hs (hs.refuse ·) fun i => ?_
  split
  · exact (hs.undrain i).done
  all_goals exact hs.refuse _

theorem exec_release (hs : Agreement s) (index : Byte) : AnswersIn (execRelease index s) Agreement := by
  refine answersIn_detectorCommand hs (hs.refuse ·) fun i => ?_
  dsimp only
  split
  · exact (hs.enterServing ..).done
  all_goals exact hs.refuse _

theorem exec_resteer (hs : Agreement s) (group : Byte) : AnswersIn (execResteer group s) Agreement := by
  refine answersIn_portCommand hs ?_
  dsimp only
  split
  · exact hs.refuse _
  · split
    · exact hs.refuse _
    · exact hs.of_same

theorem exec_leave (hs : Agreement s) : AnswersIn (execLeave s) Agreement := by
  refine answersIn_portCommand hs ?_
  split
  · exact hs.refuse _
  · exact hs.done
  all_goals exact hs.leave.done

theorem exec_rejoin (hs : Agreement s) : AnswersIn (execRejoin s) Agreement := by
  refine answersIn_portCommand hs ?_
  split
  · exact (hs.enterJoining.changeMode ..).done
  · exact (hs.enterJoining.changeMode ..).done
  all_goals exact hs.refuse _

theorem exec_setEventReporting (hs : Agreement s) (trigger timeout : Byte) :
    AnswersIn (execSetEventReporting trigger timeout s) Agreement := by
  refine answersIn_portCommand hs ?_
  split
  · exact hs.of_same
  · exact hs.refuse _

theorem exec_readStatus (hs : Agreement s) : AnswersIn (execReadStatus s) Agreement := by
  refine answersIn_portCommand hs ?_
  exact hs.of_same

theorem exec_readEvents (hs : Agreement s) (n : Byte) : AnswersIn (execReadEvents n s) Agreement := by
  refine answersIn_portCommand hs ?_
  split
  · exact hs.of_same
  · exact hs.refuse _

/-- READ_MAP clears marks, and no entry's state is a mark (R16). -/
theorem exec_readMap (hs : Agreement s) (which : Byte) : AnswersIn (execReadMap which s) Agreement := by
  refine answersIn_portCommand hs ?_
  split
  · next u _ =>
    have states (v : Fin 64) : ((s.clearMark u).map.get v).state = (s.map.get v).state := by
      simp only [State.clearMark, State.setEntry_map, Table.get_set]
      split
      · next h => rw [h]
      · rfl
    have cleared : Agreement (s.clearMark u) := hs.of_same rfl states (fun _ => rfl) fun _ => rfl
    exact cleared.replied ..
  · split
    · exact hs.of_same
    · exact hs.refuse _

theorem exec_readRoster (hs : Agreement s) : AnswersIn (execReadRoster s) Agreement :=
  answersIn_portCommand hs (hs.replied ..)

theorem exec_readGroup (hs : Agreement s) (group : Byte) : AnswersIn (execReadGroup group s) Agreement :=
  answersIn_portCommand hs (hs.replied ..)

theorem exec_probe (hs : Agreement s) (group : Byte) (hash : Half) : AnswersIn (execProbe group hash s) Agreement :=
  answersIn_portCommand hs (hs.replied ..)

/-! ### Lines, timers and the lane -/

theorem exec_losChange (hs : Agreement s) (i : Fin 4) (high : Bool) : AnswersIn (execLosChange i high s) Agreement := by
  have hd : Agreement (s.setDetector i { s.detectors.get i with losLine := high }) := hs.setDetector rfl
  refine answersIn_next.mpr ?_
  split
  · exact hd.setFactor ..
  · exact hd

theorem exec_lockChange (hs : Agreement s) (i : Fin 4) (high : Bool) : AnswersIn (execLockChange i high s) Agreement := by
  have hd : Agreement (s.setDetector i { s.detectors.get i with lockLine := high }) := hs.setDetector rfl
  refine answersIn_next.mpr ?_
  split
  · exact hd.setFactor ..
  · exact hd

theorem exec_heartbeatPulse (hs : Agreement s) (i : Fin 4) : AnswersIn (execHeartbeatPulse i s) Agreement := by
  refine answersIn_next.mpr ?_
  dsimp only
  split
  · have hd : Agreement (s.setDetector i { s.detectors.get i with
        lastPulse := some s.ticks
        watchdog := s.after ((s.detectors.get i).config.hbMax * Config.heartbeatUnitTicks) }) := hs.setDetector rfl
    split
    · exact hd.setFactor ..
    · exact hd
  · exact hs

theorem exec_restoreHoldExpiry (hs : Agreement s) (i : Fin 4) : AnswersIn (execRestoreHoldExpiry i s) Agreement := by
  refine answersIn_next.mpr ?_
  split
  · split
    · exact hs.enterServing ..
    · exact push (hs.setDetector (by rfl)) _ _
  · exact hs

theorem exec_txMismatch (hs : Agreement s) : AnswersIn (execTxMismatch s) Agreement := by
  refine answersIn_next.mpr ?_
  split
  · exact hs.withLane _
  · exact hs.withLane _
  all_goals exact hs

theorem exec_abortPatternEnd (hs : Agreement s) : AnswersIn (execAbortPatternEnd s) Agreement := by
  refine answersIn_next.mpr ?_
  split
  · split
    · exact hs.wonNoticeEnds ..
    · exact hs.withLane _
  · exact hs

theorem exec_noticeCompleted (hs : Agreement s) (slots : StationSet) : AnswersIn (execNoticeCompleted slots s) Agreement := by
  refine answersIn_next.mpr ?_
  split
  · exact hs.wonNoticeEnds ..
  · exact hs

theorem exec_noticeDecision (hs : Agreement s) (n : RxNotice) : AnswersIn (execNoticeDecision n s) Agreement := by
  have moved : Agreement (if s.lane.tx = .sending then s.withLane { s.lane with tx := .closing } else s) :=
    iteInduction (fun _ => hs.withLane _) fun _ => hs
  exact answersIn_next.mpr (iteInduction (fun _ => moved.receive n) fun _ => moved)

theorem exec_receiveAbort (hs : Agreement s) : AnswersIn (execReceiveAbort s) Agreement := by
  refine answersIn_next.mpr ?_
  split
  · exact hs.of_same
  · exact hs.of_same
  all_goals exact hs

theorem exec_receiveTruncation (hs : Agreement s) : AnswersIn (execReceiveTruncation s) Agreement := by
  refine answersIn_next.mpr ?_
  split
  · exact hs.of_same
  · exact hs.of_same
  all_goals exact hs

/-- Only a peer's slot is in a state whose silence can end, so the own entries are no part of the claim (R92, R96). -/
theorem exec_silenceTimerExpiry (hs : Agreement s) (k : Fin 16) : AnswersIn (execSilenceTimerExpiry k s) Agreement := by
  have lost (hk : (s.roster.slots.get k).state ≠ .self) :
      Agreement (if (s.roster.slots.get k).silence.isSome then s.fallSilent k else s) :=
    iteInduction (fun _ => hs.fallSilent fun h => hk ((hs.self k).mpr h)) fun _ => hs
  refine answersIn_next.mpr ?_
  split
  · next h => exact lost (by simp [h])
  · next h => exact lost (by simp [h])
  · next h => exact lost (by simp [h])
  all_goals exact hs

theorem exec_evaluationCommit (hs : Agreement s) : AnswersIn (execEvaluationCommit s) Agreement := by
  refine answersIn_next.mpr ?_
  split
  · exact hs
  · exact hs.of_same
  · exact hs.of_same

/-! ### Requests -/

theorem request (hs : Agreement s) (r : Request) : Agreement (s.request r) := by
  unfold State.request
  split
  · exact hs.of_same
  · exact hs

theorem take (hs : Agreement s) : Agreement s.take := by
  unfold State.take
  split
  · exact hs.of_same
  · split
    · exact hs.of_same
    · exact hs.of_same

/-- Every command keeps the agreement. -/
theorem afterCommand (c : Instr) (hs : Agreement s) : AnswersIn (exec c s) Agreement := by
  cases c with
  | fullReset straps => exact answersIn_next.mpr (fullReset ..)
  | rstRelease => exact answersIn_next.mpr (iteInduction (fun _ => hs.of_same) fun _ => hs)
  | frameDiscard =>
    refine answersIn_portCommand hs ?_
    exact hs.of_same
  | unknownCommand code => exact hs.exec_unknownCommand code
  | setStation fingerprint period silence => exact hs.exec_setStation ..
  | setUplink args => exact hs.exec_setUplink args
  | writeGroup args => exact hs.exec_writeGroup args
  | clearGroup group => exact hs.exec_clearGroup group
  | start => exact hs.exec_start
  | drain index => exact hs.exec_drain index
  | undrain index => exact hs.exec_undrain index
  | release index => exact hs.exec_release index
  | resteer group => exact hs.exec_resteer group
  | leave => exact hs.exec_leave
  | rejoin => exact hs.exec_rejoin
  | restart => exact hs.exec_restart
  | setEventReporting trigger timeout => exact hs.exec_setEventReporting ..
  | readStatus => exact hs.exec_readStatus
  | readEvents n => exact hs.exec_readEvents n
  | readMap which => exact hs.exec_readMap which
  | readRoster => exact hs.exec_readRoster
  | readGroup group => exact hs.exec_readGroup group
  | probe group hash => exact hs.exec_probe group hash
  | lookupRequest word => exact answersIn_next.mpr (hs.request _)
  | takeRequest => exact answersIn_next.mpr (hs.request _)
  | lookupService =>
    refine answersIn_next.mpr ?_
    split
    · exact hs.of_same
    all_goals exact hs
  | takeService =>
    refine answersIn_next.mpr ?_
    split
    · exact hs.take
    all_goals exact hs
  | losChange i high => exact hs.exec_losChange i high
  | lockChange i high => exact hs.exec_lockChange i high
  | heartbeatPulse i => exact hs.exec_heartbeatPulse i
  | heartbeatWatchdogExpiry i =>
    exact answersIn_next.mpr (iteInduction (fun _ => setFactor (hs.setDetector (by rfl)) ..) fun _ => hs)
  | qualifyTimerExpiry i => exact answersIn_next.mpr (iteInduction (fun _ => hs.enterDark i) fun _ => hs)
  | restoreHoldExpiry i => exact hs.exec_restoreHoldExpiry i
  | stabilityTimerExpiry i => exact answersIn_next.mpr (iteInduction (fun _ => hs.setDetector (by rfl)) fun _ => hs)
  | quietGapEnd => exact answersIn_next.mpr (iteInduction (fun _ => hs) fun _ => hs.withLane _)
  | noticeStartOffer => exact answersIn_next.mpr (iteInduction (fun _ => hs.of_same) fun _ => hs)
  | arbitrationLost => exact answersIn_next.mpr (iteInduction (fun _ => hs.withLane _) fun _ => hs)
  | txMismatch => exact hs.exec_txMismatch
  | abortPatternEnd => exact hs.exec_abortPatternEnd
  | noticeCompleted slots => exact hs.exec_noticeCompleted slots
  | noticeDecision n => exact hs.exec_noticeDecision n
  | receiveAbort => exact hs.exec_receiveAbort
  | receiveTruncation => exact hs.exec_receiveTruncation
  | badStartMark => exact answersIn_next.mpr (iteInduction (fun _ => hs.of_same) fun _ => hs)
  | silenceTimerExpiry k => exact hs.exec_silenceTimerExpiry k
  | beaconTimerExpiry => exact answersIn_next.mpr (iteInduction (fun _ => hs.of_same) fun _ => hs)
  | joinWindowExpiry =>
    exact answersIn_next.mpr (iteInduction (fun _ => testGuard ⟨hs.self, hs.image, hs.absence⟩) fun _ => hs)
  | cooldownExpiry => exact answersIn_next.mpr (iteInduction (fun _ => hs.enterJoining.changeMode ..) fun _ => hs)
  | evaluationCommit => exact hs.exec_evaluationCommit
  | idleTimerExpiry => exact answersIn_next.mpr (iteInduction (fun _ => hs.of_same) fun _ => hs)
  | laneDominantLevel => exact answersIn_next.mpr (iteInduction (fun _ => hs) fun _ => hs.withLane _)
  | arbitrationWon => exact answersIn_next.mpr (iteInduction (fun _ => hs.withLane _) fun _ => hs)
  | receivedNoticeEnd => exact answersIn_next.mpr (iteInduction (fun _ => hs.withLane _) fun _ => hs)

theorem tick (hs : Agreement s) : Agreement s.tick := by
  unfold State.tick
  split
  · exact hs
  · exact ⟨hs.self, hs.image, hs.absence⟩

theorem afterStep (hs : Agreement s) : AnswersIn (step s) Agreement :=
  step_keeps (fun _ _ _ _ h => ⟨h.self, h.image, h.absence⟩) (fun _ _ h => h.of_same) (fun _ h => h.tick)
    (fun c _ h => h.afterCommand c) hs

end Agreement

end Sys2Proof.Machine

namespace Sys2Proof.UplinkMap

open Sys2Proof.Machine

/-- Settles O57: the three laws together are kept by every command, by an edge that moves the frame and by a tick. -/
theorem stepKeepsMapInAgreement : Obligations.StepKeepsMapInAgreement := by
  unfold Obligations.StepKeepsMapInAgreement
  intro s s' hstep ⟨hself, himage, habsence⟩
  obtain ⟨self, image, absence⟩ := (Agreement.mk hself himage habsence).afterStep.of_eq_next hstep
  exact ⟨self, image, absence⟩

end Sys2Proof.UplinkMap

/-! SUPPORT. What one selection of the Sweep Engine can do, what dirtying does, and the two claims on a peer's entries taken
apart: a notice's record (R8 to R13) and the roster's claim (R14). -/

namespace Sys2Proof.Machine.State

/-! ### The Sweep Engine's selection (R128, R130) -/

/-- What each of the three selections of an idle engine keeps is kept by selection: of an uplink that no group names, which
completes at once; of one that some group names, whose sweep starts; of a group of the resteer set. -/
theorem selectFuel_keeps {p : State → Prop}
    (complete : ∀ (s : State) (u : Fin 64), s.engine.work = .idle → s.choose = some (.uplink u) → s.engine.index.get u = [] →
      p s → p (s.withEngine { s.engine with dirty := s.engine.dirty.set u false, ring := ringBottom s.engine.ring u }))
    (sweep : ∀ (s : State) (u : Fin 64) (g : Fin 256) (rest : List (Fin 256)), s.engine.work = .idle →
      s.choose = some (.uplink u) → s.engine.index.get u = g :: rest → p s →
      p (s.withEngine { s.engine with dirty := s.engine.dirty.set u false, work := .sweep u 0 (s.startEvaluation g) }))
    (resteer : ∀ (s : State) (g : Fin 256), s.engine.work = .idle → s.choose = some (.group g) → p s →
      p (s.withEngine { s.engine with resteers := s.engine.resteers.set g false, work := .resteer (s.startEvaluation g) }))
    (n : Nat) {s : State} (h : p s) : p (selectFuel n s) := by
  induction n generalizing s with
  | zero => exact h
  | succ n ih =>
    unfold selectFuel
    split
    · next hidle =>
      split
      · exact h
      · next u hu =>
        dsimp only
        split
        · next hnil => exact ih (complete s u hidle hu hnil h)
        · next g rest hcons => exact sweep s u g rest hidle hu hcons h
      · next g hg => exact resteer s g hidle hg h
    all_goals exact h

theorem selectFuel_of_busy {s : State} (h : s.engine.work ≠ .idle) (n : Nat) : selectFuel n s = s := by
  cases n with
  | zero => rfl
  | succ n =>
    unfold selectFuel
    split
    · next hidle => exact absurd hidle h
    all_goals rfl

/-- A busy engine goes on (R128). -/
theorem select_of_busy {s : State} (h : s.engine.work ≠ .idle) : s.select = s := selectFuel_of_busy h 65

/-- Selection leaves the member index (R124). -/
@[simp] theorem select_index (s : State) : s.select.engine.index = s.engine.index :=
  selectFuel_keeps (p := fun t => t.engine.index = s.engine.index) (fun _ _ _ _ _ h => h) (fun _ _ _ _ _ _ _ h => h)
    (fun _ _ _ _ h => h) 65 rfl

@[simp] theorem addDirty_index (s : State) (u : Fin 64) : (s.addDirty u).engine.index = s.engine.index := by
  simp [addDirty]

theorem addDirty_engine_of_busy {s : State} (h : s.engine.work ≠ .idle) (u : Fin 64) :
    (s.addDirty u).engine = { s.engine with dirty := s.engine.dirty.set u true } :=
  congrArg engine (select_of_busy (s := s.withEngine { s.engine with dirty := s.engine.dirty.set u true }) h)

/-- The uplink waits for its sweep, or is in sweep, or no group names it, so that its sweep has nothing to visit (R130). -/
def Covered (s : State) (m : Fin 64) : Prop := DirtyOrInSweep s m ∨ s.engine.index.get m = []

theorem Covered.congr {s t : State} {m : Fin 64} (h : Covered s m) (he : t.engine = s.engine) : Covered t m := by
  simpa only [Covered, DirtyOrInSweep, he] using h

/-- An uplink leaves the dirty set only into its sweep, or where no group names it (R128, R130). -/
theorem Covered.select {s : State} {m : Fin 64} (h : Covered s m) : Covered s.select m := by
  refine selectFuel_keeps (p := (Covered · m)) ?_ ?_ ?_ 65 h
  · rintro s u hidle - hnil ((hdirty | ⟨p, ev, hwork⟩) | hindex)
    · by_cases hu : u = m
      · subst hu
        exact .inr hnil
      · exact .inl (.inl (by simpa [Table.get_set_of_ne hu] using hdirty))
    · rw [hidle] at hwork
      cases hwork
    · exact .inr hindex
  · rintro s u g rest hidle - - ((hdirty | ⟨p, ev, hwork⟩) | hindex)
    · by_cases hu : u = m
      · subst hu
        exact .inl (.inr ⟨_, _, rfl⟩)
      · exact .inl (.inl (by simpa [Table.get_set_of_ne hu] using hdirty))
    · rw [hidle] at hwork
      cases hwork
    · exact .inr hindex
  · rintro s g hidle - ((hdirty | ⟨p, ev, hwork⟩) | hindex)
    · exact .inl (.inl hdirty)
    · rw [hidle] at hwork
      cases hwork
    · exact .inr hindex

theorem Covered.addDirty {s : State} {m : Fin 64} (h : Covered s m) (u : Fin 64) : Covered (s.addDirty u) m := by
  refine Covered.select ?_
  obtain (hdirty | hwork) | hindex := h
  · exact .inl (.inl (by simp [Table.get_set, hdirty]))
  · exact .inl (.inr hwork)
  · exact .inr hindex

theorem covered_addDirty (s : State) (u : Fin 64) : Covered (s.addDirty u) u :=
  Covered.select (.inl (.inl (by simp)))

/-! ### A change of a peer's entry (R12, R13) -/

/-- A change of state writes the entry, pushes PEER_UPLINK, and dirties the uplink where its usability changes. -/
theorem changePeer_eq (s : State) (u : Fin 64) (m : MapState) (ep : Byte) (o : Origin) (c : FactorSet) :
    s.changePeer u m ep o c =
      let changed := (s.setEntry u ⟨m, ep, o, c, true, s.now⟩).push (idByte u) (.peerUplink (s.map.get u).state m ep c o)
      if (s.map.get u).state = .inService ↔ m = .inService then changed else changed.addDirty u := by
  simp only [changePeer, dirtyOnChange, decide_eq_decide]

/-- The distance of R10 from one epoch to another, modulo 256. -/
theorem epoch_distance (a b : Byte) : (a - b).toNat = (a.toNat + 256 - b.toNat) % 256 := by
  have := b.isLt
  rw [BitVec.toNat_sub]
  omega

/-- A record is applied unconditionally, or where its epoch is 1 to 127 ahead (R9, R10). -/
theorem applyRecord_eq (un : Bool) (k : Fin 16) (s : State) (r : Record) :
    applyRecord un k s r =
      let u := uplinkId k r.index
      let old := s.map.get u
      let distance := (r.epoch.toNat + 256 - old.epoch.toNat) % 256
      if un = true ∨ (1 ≤ distance ∧ distance ≤ 127) then
        if r.state = old.state then s.setEntry u { old with epoch := r.epoch }
        else s.changePeer u r.state r.epoch .fromNotice (if r.state = .dark then r.cause else 0#3)
      else s := by
  simp only [applyRecord, epoch_distance, Bool.or_eq_true, Bool.and_eq_true, decide_eq_true_eq]

/-! ### The roster's claim (R14) -/

/-- The claim on an entry that is not ABSENT is a change of state to ABSENT, and dirties an uplink that was IN_SERVICE. -/
theorem clearEntry_eq (s : State) (u : Fin 64) :
    s.clearEntry u =
      let old := s.map.get u
      if old.state = .absent then s.setEntry u { old with epoch := 0#8 }
      else
        let cleared := (s.setEntry u ⟨.absent, 0#8, .fromRoster, 0#3, true, s.now⟩).push (idByte u)
          (.peerUplink old.state .absent 0#8 0#3 .fromRoster)
        if old.state = .inService then cleared.addDirty u else cleared := by
  simp only [clearEntry, changePeer_eq, reduceCtorEq, iff_false, ite_not]

theorem clearEntry_map_get_of_ne (s : State) (k : Fin 16) {i j : Fin 4} (h : i ≠ j) :
    (s.clearEntry (uplinkId k i)).map.get (uplinkId k j) = s.map.get (uplinkId k j) := by
  rw [clearEntry_map, Table.get_set_of_ne (by simpa using h)]

theorem clearEntry_events (s : State) (u : Fin 64) :
    (s.clearEntry u).events =
      if (s.map.get u).state = .absent then s.events
      else s.events.push s.ticks ⟨s.now, idByte u, .peerUplink (s.map.get u).state .absent 0#8 0#3 .fromRoster⟩ := by
  rw [clearEntry_eq]
  dsimp only
  split
  · rfl
  · split <;> simp

/-- An entry that is not IN_SERVICE dirties nothing (R13). -/
theorem clearEntry_engine_of_unusable (s : State) (u : Fin 64) (h : (s.map.get u).state ≠ .inService) :
    (s.clearEntry u).engine = s.engine := by
  rw [clearEntry_eq]
  dsimp only
  rw [if_neg h]
  split <;> rfl

/-- An entry that was IN_SERVICE is dirtied. -/
theorem clearEntry_engine_of_usable (s : State) (u : Fin 64) (h : (s.map.get u).state = .inService) :
    ∃ t : State, t.engine = s.engine ∧ (s.clearEntry u).engine = (t.addDirty u).engine := by
  rw [clearEntry_eq]
  dsimp only
  rw [if_neg (by simp [h]), if_pos h]
  refine ⟨_, ?_, rfl⟩
  rfl

theorem clearEntry_index (s : State) (u : Fin 64) : (s.clearEntry u).engine.index = s.engine.index := by
  by_cases h : (s.map.get u).state = .inService
  · obtain ⟨t, ht, hc⟩ := clearEntry_engine_of_usable s u h
    rw [hc, addDirty_index, ht]
  · rw [clearEntry_engine_of_unusable s u h]

theorem clearEntry_engine_of_busy {s : State} (hb : s.engine.work ≠ .idle) (u : Fin 64) :
    (s.clearEntry u).engine = { s.engine with
      dirty := if (s.map.get u).state = .inService then s.engine.dirty.set u true else s.engine.dirty } := by
  by_cases h : (s.map.get u).state = .inService
  · obtain ⟨t, ht, hc⟩ := clearEntry_engine_of_usable s u h
    rw [hc, addDirty_engine_of_busy (by rwa [ht]), ht, if_pos h]
  · rw [clearEntry_engine_of_unusable s u h, if_neg h]

theorem Covered.clearEntry {s : State} {m : Fin 64} (h : Covered s m) (u : Fin 64) : Covered (s.clearEntry u) m := by
  by_cases hu : (s.map.get u).state = .inService
  · obtain ⟨t, ht, hc⟩ := clearEntry_engine_of_usable s u hu
    exact ((h.congr ht).addDirty u).congr hc
  · exact h.congr (clearEntry_engine_of_unusable s u hu)

theorem covered_clearEntry (s : State) (u : Fin 64) (h : (s.map.get u).state = .inService) : Covered (s.clearEntry u) u := by
  obtain ⟨t, -, hc⟩ := clearEntry_engine_of_usable s u h
  exact (covered_addDirty t u).congr hc

/-! ### The claim on the entries listed -/

/-- The PEER_UPLINK records of the claim on the entries that `l` lists, in its order (R12, R14). -/
def claimRecords (s : State) (k : Fin 16) (l : List (Fin 4)) : List (Byte × Detail) :=
  (l.filter fun i => decide ((s.map.get (uplinkId k i)).state ≠ .absent)).map fun i =>
    (idByte (uplinkId k i), .peerUplink (s.map.get (uplinkId k i)).state .absent 0#8 0#3 .fromRoster)

theorem claimRecords_congr {s t : State} {k : Fin 16} {l : List (Fin 4)}
    (h : ∀ i ∈ l, t.map.get (uplinkId k i) = s.map.get (uplinkId k i)) : claimRecords t k l = claimRecords s k l := by
  unfold claimRecords
  rw [List.filter_congr fun i hi => by rw [h i hi]]
  exact List.map_congr_left fun i hi => by rw [h i (List.mem_of_mem_filter hi)]

section Listed

variable (k : Fin 16)

/-- The entries still to be cleared stand as they were. -/
theorem clearEntry_keeps_listed {i : Fin 4} {l : List (Fin 4)} (hi : i ∉ l) (s : State) :
    ∀ j ∈ l, (s.clearEntry (uplinkId k i)).map.get (uplinkId k j) = s.map.get (uplinkId k j) :=
  fun _ hj => clearEntry_map_get_of_ne s k fun h => hi (h ▸ hj)

theorem claimEntries_events (l : List (Fin 4)) (hl : l.Nodup) (s : State) :
    (claimEntries k l s).events = pushedAll s (claimRecords s k l) := by
  induction l generalizing s with
  | nil => rfl
  | cons i l ih =>
    obtain ⟨hi, hl⟩ := List.nodup_cons.mp hl
    rw [claimEntries_cons, ih hl, claimRecords_congr (clearEntry_keeps_listed k hi s)]
    simp only [pushedAll, clearEntry_events, clearEntry_ticks, clearEntry_now]
    by_cases h : (s.map.get (uplinkId k i)).state = .absent <;> simp [claimRecords, h]

theorem claimEntries_index (l : List (Fin 4)) (s : State) : (claimEntries k l s).engine.index = s.engine.index := by
  induction l generalizing s with
  | nil => rfl
  | cons i l ih => rw [claimEntries_cons, ih, clearEntry_index]

theorem claimEntries_engine_of_unusable (l : List (Fin 4)) (hl : l.Nodup) (s : State)
    (h : ∀ i ∈ l, (s.map.get (uplinkId k i)).state ≠ .inService) : (claimEntries k l s).engine = s.engine := by
  induction l generalizing s with
  | nil => rfl
  | cons i l ih =>
    obtain ⟨hi, hl⟩ := List.nodup_cons.mp hl
    rw [List.forall_mem_cons] at h
    rw [claimEntries_cons, ih hl _ fun j hj => by rw [clearEntry_keeps_listed k hi s j hj]; exact h.2 j hj]
    exact clearEntry_engine_of_unusable s _ h.1

theorem Covered.claimEntries {s : State} {m : Fin 64} (h : Covered s m) (l : List (Fin 4)) :
    Covered (claimEntries k l s) m := by
  induction l generalizing s with
  | nil => exact h
  | cons i l ih => exact ih (h.clearEntry _)

theorem covered_claimEntries (l : List (Fin 4)) (hl : l.Nodup) (s : State) :
    ∀ i ∈ l, (s.map.get (uplinkId k i)).state = .inService → Covered (claimEntries k l s) (uplinkId k i) := by
  induction l generalizing s with
  | nil => simp
  | cons i l ih =>
    obtain ⟨hi, hl⟩ := List.nodup_cons.mp hl
    rw [List.forall_mem_cons]
    refine ⟨fun h => (covered_clearEntry s _ h).claimEntries k l, fun j hj h => ih hl _ j hj ?_⟩
    rwa [clearEntry_keeps_listed k hi s j hj]

/-- A busy engine takes the uplinks that were IN_SERVICE into its dirty set and does nothing else (R123, R128). -/
theorem claimEntries_engine_of_busy (l : List (Fin 4)) (hl : l.Nodup) (s : State) (hb : s.engine.work ≠ .idle) :
    (claimEntries k l s).engine = { s.engine with dirty := (claimEntries k l s).engine.dirty } ∧
    ∀ u : Fin 64, (claimEntries k l s).engine.dirty.get u =
      (s.engine.dirty.get u || decide (∃ i ∈ l, u = uplinkId k i ∧ (s.map.get (uplinkId k i)).state = .inService)) := by
  induction l generalizing s with
  | nil => simp
  | cons i l ih =>
    obtain ⟨hi, hl⟩ := List.nodup_cons.mp hl
    have he := clearEntry_engine_of_busy hb (uplinkId k i)
    obtain ⟨hengine, hdirty⟩ := ih hl (s.clearEntry (uplinkId k i)) (by rw [he]; exact hb)
    refine ⟨by rw [claimEntries_cons, hengine, he], fun u => ?_⟩
    have hlater : (∃ j ∈ l, u = uplinkId k j ∧
        ((s.clearEntry (uplinkId k i)).map.get (uplinkId k j)).state = .inService) ↔
        ∃ j ∈ l, u = uplinkId k j ∧ (s.map.get (uplinkId k j)).state = .inService :=
      exists_congr fun j => and_congr_right fun hj => by rw [clearEntry_keeps_listed k hi s j hj]
    rw [claimEntries_cons, hdirty, he]
    simp only [hlater, List.mem_cons, exists_eq_or_imp, Bool.decide_or]
    by_cases hs : (s.map.get (uplinkId k i)).state = .inService
    · by_cases hu : uplinkId k i = u
      · simp [hs, hu.symm]
      · simp [hs, Table.get_set_of_ne hu, Ne.symm hu]
    · simp [hs]

end Listed

/-! ### The claim on the four entries of a peer -/

section Claim

variable (s : State) (k : Fin 16)

theorem localIndexes_nodup : ([0, 1, 2, 3] : List (Fin 4)).Nodup := by decide

theorem mem_localIndexes : ∀ i : Fin 4, i ∈ ([0, 1, 2, 3] : List (Fin 4)) := by decide

theorem rosterClaim_events : (s.rosterClaim k).events = pushedAll s (claimRecords s k [0, 1, 2, 3]) := by
  rw [rosterClaim_eq, claimEntries_events k _ localIndexes_nodup]

@[simp] theorem rosterClaim_index : (s.rosterClaim k).engine.index = s.engine.index := by
  rw [rosterClaim_eq, claimEntries_index]

theorem rosterClaim_engine_of_unusable (h : ∀ i, (s.map.get (uplinkId k i)).state ≠ .inService) :
    (s.rosterClaim k).engine = s.engine := by
  rw [rosterClaim_eq, claimEntries_engine_of_unusable k _ localIndexes_nodup s fun i _ => h i]

theorem covered_rosterClaim {i : Fin 4} (h : (s.map.get (uplinkId k i)).state = .inService) :
    Covered (s.rosterClaim k) (uplinkId k i) := by
  rw [rosterClaim_eq]
  exact covered_claimEntries k _ localIndexes_nodup s i (mem_localIndexes i) h

theorem rosterClaim_engine_of_busy (hb : s.engine.work ≠ .idle) :
    (s.rosterClaim k).engine = { s.engine with dirty := (s.rosterClaim k).engine.dirty } ∧
    ∀ u : Fin 64, (s.rosterClaim k).engine.dirty.get u =
      (s.engine.dirty.get u || decide (∃ i, u = uplinkId k i ∧ (s.map.get (uplinkId k i)).state = .inService)) := by
  rw [rosterClaim_eq]
  simpa only [mem_localIndexes, true_and] using claimEntries_engine_of_busy k _ localIndexes_nodup s hb

end Claim

end Sys2Proof.Machine.State

/-! PROOF. The record of a notice, the roster's claim and FULL_RESET. -/

namespace Sys2Proof.UplinkMap

open Sys2Proof.Machine

/-- Settles O44: the record's two tests, of its epoch and of its state, decide which of the four outcomes it has. -/
theorem recordsAreAppliedByEpoch : Obligations.RecordsAreAppliedByEpoch := by
  unfold Obligations.RecordsAreAppliedByEpoch
  intro s unconditional sender r
  dsimp only
  rw [State.applyRecord_eq]
  dsimp only
  refine ⟨fun hun hdistance => ?_, fun happlied => ?_⟩
  · rw [if_neg]
    rintro (h | h)
    · simp [hun] at h
    · omega
  · rw [if_pos happlied]
    refine ⟨fun hsame => ?_, fun hnew hr hold => ?_, fun hnew hservice => ?_⟩
    · rw [if_pos hsame]
      rfl
    · rw [if_neg hnew, State.changePeer_eq]
      exact if_pos (by simp [hr, hold])
    · rw [if_neg hnew, State.changePeer_eq]
      refine if_neg fun h => hnew ?_
      obtain hr | hold := hservice
      · rw [hr, h.mpr hr]
      · rw [hold, h.mp hold]

/-- Settles O47: the claim on a list of entries, by induction on the list, taken for the four entries of the peer. -/
theorem rosterClaimMakesEntriesAbsent : Obligations.RosterClaimMakesEntriesAbsent := by
  unfold Obligations.RosterClaimMakesEntriesAbsent
  refine ⟨fun s k => ?_, fun s k => ?_, fun s u => rfl⟩
  · dsimp only
    refine ⟨fun i => ?_, fun u hu => ?_, State.rosterClaim_events s k, fun i hi => ?_, ?_, State.rosterClaim_index s k,
      State.rosterClaim_engine_of_unusable s k, State.rosterClaim_engine_of_busy s k⟩
    · rw [State.rosterClaim_map_get, if_pos (ownerOf_uplinkId k i)]
      rfl
    · rw [State.rosterClaim_map_get, if_neg hu]
    · have hcovered := State.covered_rosterClaim s k hi
      rwa [State.Covered, State.rosterClaim_index] at hcovered
    · obtain ⟨mp, en, ev, h⟩ := State.rosterClaim_frame s k
      rw [h]
  · simp only [State.rosterClaim, List.foldl_cons, List.foldl_nil, State.clearEntry_eq]
    rfl

/-- Settles O4: FULL_RESET builds the state of `State.fullReset`, and a table filled or tabulated is read at each index. -/
theorem fullResetGivesEveryResetValue : Obligations.FullResetGivesEveryResetValue := by
  unfold Obligations.FullResetGivesEveryResetValue
  intro straps s
  refine ⟨_, rfl, ⟨rfl, rfl, rfl, rfl, rfl, rfl⟩, fun u => Table.get_fill _ u, fun i => Table.get_tabulate _ i,
    ⟨rfl, rfl, rfl, rfl, rfl, rfl, rfl⟩, ⟨fun i => Table.get_fill _ i, rfl, rfl⟩, ⟨fun k => ?_, rfl, rfl, rfl, rfl⟩,
    fun g => Table.get_fill _ g, ⟨fun u => ⟨Table.get_fill _ u, Table.get_fill _ u⟩, rfl, rfl, fun g => Table.get_fill _ g⟩,
    rfl, rfl, rfl, ?_, ⟨rfl, rfl, rfl, rfl, rfl, rfl⟩⟩
  · simp [State.fullReset, Roster.reset, Roster.resetSlots, Slot.reset]
  · simp [State.fullReset]

end Sys2Proof.UplinkMap

/-! SUPPORT. The state after reset, table by table, and the laws that it keeps. -/

namespace Sys2Proof.Machine.State

/-! ### What the tables hold after reset (R19, R41, R80, R100, R119, R136) -/

@[simp] theorem reset_map_get (u : Fin 64) : reset.map.get u = .reset := Table.get_fill _ u

@[simp] theorem reset_detectors_get (i : Fin 4) : reset.detectors.get i = .reset false false := Table.get_tabulate _ i

@[simp] theorem reset_announcer_get (i : Fin 4) : reset.announcer.entries.get i = .reset := Table.get_fill _ i

@[simp] theorem reset_slots_get (k : Fin 16) : reset.roster.slots.get k = .reset (k == 0) := Table.get_tabulate _ k

@[simp] theorem reset_groups_get (g : Fin 256) : reset.groups.get g = .reset := Table.get_fill _ g

@[simp] theorem reset_dirty_get (u : Fin 64) : reset.engine.dirty.get u = false := Table.get_fill _ u

@[simp] theorem reset_resteers_get (g : Fin 256) : reset.engine.resteers.get g = false := Table.get_fill _ g

@[simp] theorem reset_index_get (u : Fin 64) : reset.engine.index.get u = [] := Table.get_fill _ u

/-! ### The laws after reset -/

theorem withinBounds_reset : WithinBounds reset :=
  ⟨Nat.zero_le _, Nat.zero_le _, Nat.zero_le _, fun k => by simp [Slot.reset]⟩

theorem invalidationLaw_reset : InvalidationLaw reset := ⟨List.nodup_nil, Nat.zero_le _, fun _ => rfl⟩

theorem lockLaw_reset : LockLaw reset := rfl

theorem slot_reset_state (own : Bool) : (Slot.reset own).state = .self ∨ (Slot.reset own).state = .unknown := by
  cases own
  · exact .inr rfl
  · exact .inl rfl

theorem offlineLaw_reset : OfflineLaw reset := fun _ =>
  ⟨fun u => by rw [reset_map_get]; rfl, fun i => by rw [reset_detectors_get]; exact ⟨rfl, rfl, rfl⟩, rfl, rfl,
    fun k => by rw [reset_slots_get]; exact slot_reset_state _, rfl, reset_dirty_get, reset_resteers_get⟩

/-- RST is released after reset (log 6). -/
theorem heldLaw_reset : HeldLaw reset := fun _ => rfl

theorem agreement_reset : Agreement reset := Agreement.fullReset ..

/-- A detector at full reset is DISABLED, with nothing failing and nothing running (R41). -/
theorem detector_reset_lawful (los lock : Bool) : (Detector.reset los lock).Lawful := by
  simp [Detector.Lawful, Detector.reset]

theorem detectorLaw_reset : DetectorLaw reset :=
  ⟨fun i => by rw [reset_detectors_get]; exact detector_reset_lawful _ _, fun _ i => by rw [reset_detectors_get]; rfl⟩

theorem announceLaw_reset : AnnounceLaw reset := fun i => by simp [AnnounceEntry.reset, AnnounceEntry.Lawful]

theorem laneLaw_reset : LaneLaw reset := by
  refine ⟨fun h => absurd rfl h, fun h => ?_, iff_of_true rfl rfl, fun h => ?_⟩
  · obtain h | h | h := h <;> cases h
  · cases h

theorem timerLaw_reset : TimerLaw reset := by
  refine ⟨fun h => ?_, fun h => ?_, fun h => ?_, fun h => ?_⟩ <;> cases h

theorem idRing_nodup : Engine.idRing.Nodup := List.nodup_ofFn.mpr fun _ _ h => h

theorem mem_idRing (u : Fin 64) : u ∈ Engine.idRing := List.mem_ofFn.mpr ⟨u, rfl⟩

theorem engineLaw_reset : EngineLaw reset := ⟨idRing_nodup, mem_idRing, fun _ => ⟨reset_dirty_get, reset_resteers_get⟩⟩

theorem frameLaw_reset : FrameLaw reset := trivial

/-- No group is configured after reset, so nothing is steered and nothing is indexed (R119). -/
theorem steeringInv_reset : SteeringInv reset := by
  have hgroup (g : Fin 256) : (reset.groups.get g).configured ≠ true := by simp [Group.reset]
  refine ⟨lockLaw_reset, offlineLaw_reset, fun g => ?_, fun u g => ?_, engineLaw_reset, fun g h => ?_, fun ev h => ?_,
    fun u p ev h => ?_, fun g h => ?_⟩
  · rw [reset_groups_get]
    exact ⟨Nat.zero_le _, fun _ => rfl⟩
  · exact iff_of_false (by simp) fun h => hgroup g h.1
  · exact absurd h (hgroup g)
  · cases h
  · cases h
  · simp at h

end Sys2Proof.Machine.State

namespace Sys2Proof.UplinkMap

open Sys2Proof.Machine

/-- Settles O5: FULL_RESET reads the straps and the levels alone, and RST_RELEASE then lifts RST. -/
theorem resetStateIsAFullResetReleased : Obligations.ResetStateIsAFullResetReleased := by
  unfold Obligations.ResetStateIsAFullResetReleased
  obtain ⟨self, image, absence⟩ := State.agreement_reset
  refine ⟨fun s t hpending hpins hdrawn hframe hlines ht => ?_, State.withinBounds_reset, State.invalidationLaw_reset,
    State.lockLaw_reset, State.offlineLaw_reset, State.heldLaw_reset, self, image, absence, State.detectorLaw_reset,
    State.announceLaw_reset, State.laneLaw_reset, State.timerLaw_reset, State.engineLaw_reset, State.frameLaw_reset,
    State.steeringInv_reset⟩
  have hreset : exec (.fullReset 0) s = .next (.fullReset 0 (fun _ => false) (fun _ => false) true true [] [] 0) := by
    simp [exec, execFullReset, hpending, hpins, hdrawn, hframe, hlines]
  rw [hreset] at ht
  cases ht
  rfl

end Sys2Proof.UplinkMap

/-! SUPPORT. Which of the part's own events are due, block by block, and what an edge at the management port's pins does in
each position of the frame. -/

namespace Sys2Proof.Machine

/-! ### The part's own events -/

/-- A timer is due where it runs and its end is reached. -/
theorem Timer.due_iff (timer : Timer) (t : Nat) : timer.due t = true ↔ ∃ e, timer = some e ∧ e ≤ t := by
  cases timer <;> simp [Timer.due]

namespace State

@[simp] theorem mem_eventIf (due : Bool) (c e : Instr) : c ∈ eventIf due e ↔ c = e ∧ due = true := by
  cases due <;> simp [eventIf]

theorem mem_indexes (i : Fin 4) : i ∈ indexes := mem_localIndexes i

theorem mem_codes (k : Fin 16) : k ∈ codes := List.mem_ofFn.mpr ⟨k, rfl⟩

theorem mem_detectorEvents (s : State) (i : Fin 4) (c : Instr) :
    c ∈ s.detectorEvents i ↔
      (c = .heartbeatWatchdogExpiry i ∧ (s.detectors.get i).watchdog.due s.ticks = true) ∨
      (c = .qualifyTimerExpiry i ∧ (s.detectors.get i).state = .suspect ∧ (s.detectors.get i).qualify.due s.ticks = true) ∨
      (c = .restoreHoldExpiry i ∧ (s.detectors.get i).state = .recovering ∧ (s.detectors.get i).awaiting = false ∧
        (s.detectors.get i).hold.due s.ticks = true) ∨
      (c = .stabilityTimerExpiry i ∧ (s.detectors.get i).stability.due s.ticks = true) := by
  simp only [detectorEvents, List.mem_append, mem_eventIf, Bool.and_eq_true, Bool.not_eq_true', decide_eq_true_eq, or_assoc,
    and_assoc]

theorem gapCanEnd_iff (s : State) :
    s.gapCanEnd = true ↔ s.lane.tx = .idle ∧ s.lane.rx ≠ .receiving ∧ s.lane.rx ≠ .closing := by
  simp only [gapCanEnd, Bool.and_eq_true, Bool.not_eq_true', decide_eq_true_eq, decide_eq_false_iff_not, and_assoc, ne_eq]

theorem transmits_iff (m : Mode) : m.transmits = true ↔ m = .joining ∨ m = .active := by
  cases m <;> simp [Mode.transmits]

/-- Something waits to be sent where some announce entry is not CLEAN, or a beacon is due (R66). -/
theorem hasSomething_iff (s : State) :
    s.hasSomething = true ↔ (∃ i : Fin 4, (s.announcer.entries.get i).state ≠ .clean) ∨ s.announcer.beaconDue = true := by
  simp [hasSomething, waiting, mem_indexes]

/-- The five conditions of an offer (R48). -/
theorem offersStart_iff (s : State) : s.offersStart = true ↔ WouldOffer s := by
  simp only [offersStart, WouldOffer, Bool.and_eq_true, decide_eq_true_eq, transmits_iff, hasSomething_iff, and_assoc]

theorem mem_laneEvents (s : State) (c : Instr) :
    c ∈ s.laneEvents ↔
      (c = .quietGapEnd ∧ s.lane.tx = .idle ∧ s.lane.rx ≠ .receiving ∧ s.lane.rx ≠ .closing ∧
        s.lane.gapEnd.due s.ticks = true) ∨
      (c = .abortPatternEnd ∧ s.lane.tx = .aborting ∧ s.lane.abortEnd.due s.ticks = true) ∨
      (c = .noticeStartOffer ∧ WouldOffer s) := by
  simp only [laneEvents, List.mem_append, mem_eventIf, Bool.and_eq_true, decide_eq_true_eq, gapCanEnd_iff, offersStart_iff,
    or_assoc, and_assoc]

/-- A peer's silence can end in the states in which its silence timer runs (R93). -/
theorem silence_runs_iff (s : State) (k : Fin 16) :
    (s.hearable k = true ∨ (s.roster.slots.get k).state = .excluded) ↔
      (s.roster.slots.get k).state ∈ [SlotState.joining, .present, .excluded] := by
  unfold hearable
  cases (s.roster.slots.get k).state <;> simp

theorem mem_silenceEvent (s : State) (k : Fin 16) (c : Instr) :
    c ∈ s.silenceEvent k ↔
      c = .silenceTimerExpiry k ∧ (s.roster.slots.get k).state ∈ [SlotState.joining, .present, .excluded] ∧
        (s.roster.slots.get k).silence.due s.ticks = true := by
  simp only [silenceEvent, mem_eventIf, Bool.and_eq_true, Bool.or_eq_true, decide_eq_true_eq, silence_runs_iff]

theorem mem_stationEvents (s : State) (c : Instr) :
    c ∈ s.stationEvents ↔
      (c = .beaconTimerExpiry ∧ s.announcer.beaconTimer.due s.ticks = true) ∨
      (c = .joinWindowExpiry ∧ s.roster.mode = .joining ∧ s.roster.joinWindow.due s.ticks = true) ∨
      (c = .cooldownExpiry ∧ s.roster.mode = .isolated ∧ s.roster.cooldown.due s.ticks = true) ∨
      (c = .idleTimerExpiry ∧ s.events.idleTimer.due s.ticks = true) := by
  simp only [stationEvents, List.mem_append, mem_eventIf, Bool.and_eq_true, decide_eq_true_eq, or_assoc]

theorem mem_engineEvent (s : State) (c : Instr) :
    c ∈ s.engineEvent ↔
      c = .evaluationCommit ∧ ∃ ev : Evaluation, s.engine.work.evaluation = some ev ∧ ev.due ≤ s.ticks := by
  unfold engineEvent
  cases s.engine.work <;> simp [Work.evaluation]

theorem mem_serviceEvent (s : State) (c : Instr) :
    c ∈ s.serviceEvent ↔
      (c = .lookupService ∧ ∃ (g : Fin 256) (hash : Half) (rest : List Request), s.lookup.requests = .lookup g hash :: rest) ∨
      (c = .takeService ∧ ∃ rest : List Request, s.lookup.requests = .take :: rest) := by
  unfold serviceEvent
  split
  · next h => simp [h]
  · next h => simp [h]
  · next h => simp [h]

theorem ownEvents_of_held {s : State} (h : s.rstHeld = true) : s.ownEvents = [] := by
  unfold ownEvents
  rw [if_pos h]

theorem mem_ownEvents {s : State} (h : s.rstHeld = false) (c : Instr) : c ∈ s.ownEvents ↔ DueEvent s c := by
  simp only [ownEvents, h, Bool.false_eq_true, if_false, List.mem_append, List.mem_flatMap, mem_indexes, mem_codes, true_and,
    mem_detectorEvents, mem_laneEvents, mem_silenceEvent, mem_stationEvents, mem_engineEvent, mem_serviceEvent,
    DueEvent, Timer.due_iff, or_assoc]

/-- The event picked is one of those that are due (log 2). -/
theorem pick_mem (s : State) (first : Instr) (rest : List Instr) : s.pick first rest ∈ first :: rest := by
  have hlt : Config.freeChoice s.drawn % (first :: rest).length < (first :: rest).length := Nat.mod_lt _ (by simp)
  unfold pick
  dsimp only
  rw [List.getD_eq_getElem _ _ hlt]
  exact List.getElem_mem hlt

end State

theorem step_of_edge {s : State} (h : s.pending = []) {edge : PortPin} {rest : List PortPin} (hp : s.pins = edge :: rest) :
    step s = takePin edge { s with pins := rest } := by
  simp only [step, h, idleStep, hp]

theorem step_of_quiet_ports {s : State} (h : s.pending = []) (hp : s.pins = []) : step s = ownStep s := by
  simp only [step, h, idleStep, hp]

theorem ownStep_of_several {s : State} (h : 2 ≤ s.ownEvents.length) :
    ∃ c ∈ s.ownEvents, ownStep s = exec c { s with drawn := s.drawn + 1 } := by
  unfold ownStep
  split
  · next he => simp [he] at h
  · next he => simp [he] at h
  · next first rest _ he => exact ⟨s.pick first rest, he ▸ s.pick_mem first rest, rfl⟩

/-! ### The edges at the management port (R148, R149) -/

/-- The bits of a byte in the order sent, by their places. -/
theorem msbFirst_byte (b : Byte) : msbFirst 8 b = (List.range 8).map fun k => b.getLsbD (7 - k) :=
  List.map_congr_left fun k hk => by
    rw [BitVec.getMsbD_eq_getLsbD]
    simp [List.mem_range.mp hk]

variable {s : State}

/-- While RST is held the level of MCS is followed and MCK is ignored (log 7). -/
theorem edges_while_held (h : s.rstHeld = true) :
    takePin .mcsFall s = .next (framed s .waiting) ∧ takePin .mcsRise s = .next (framed s .closed) ∧
    takePin .mckFall s = .next s ∧ ∀ mdi : Bool, takePin (.mckRise mdi) s = .next s := by
  refine ⟨?_, ?_, ?_, fun mdi => ?_⟩
  · simp only [takePin, takeMcsFall, h, if_true]
    rfl
  · unfold takePin takeMcsRise
    dsimp only
    split
    · rw [if_pos h]
      rfl
    all_goals rfl
  · simp only [takePin, takeMckFall, h, if_true]
  · simp only [takePin, takeMckRise, h, if_true]

/-- MCS falls where it is high: a frame begins. -/
theorem mcsFall_of_closed (h : s.rstHeld = false) (hf : s.port.frame = .closed) :
    takePin .mcsFall s = .next (framed s (.opening [] [])) := by
  simp only [takePin, takeMcsFall, h, Bool.false_eq_true, if_false, hf]
  rfl

/-- MCS is low already. -/
theorem mcsFall_of_low (h : s.rstHeld = false) (hf : s.port.frame ≠ .closed) : takePin .mcsFall s = .next s := by
  simp only [takePin, takeMcsFall, h, Bool.false_eq_true, if_false]
  split
  · next hc => exact absurd hc hf
  all_goals rfl

/-- Outside a frame MCK is ignored. -/
theorem edges_outside_frame (h : s.rstHeld = false) (hf : s.port.frame = .closed ∨ s.port.frame = .waiting) :
    takePin .mcsRise s = .next (framed s .closed) ∧ takePin .mckFall s = .next s ∧
    ∀ mdi : Bool, takePin (.mckRise mdi) s = .next s := by
  obtain hf | hf := hf <;>
    simp only [takePin, takeMcsRise, takeMckFall, takeMckRise, h, hf, Bool.false_eq_true, if_false, implies_true, and_true] <;>
    rfl

theorem frameDiscard_of_released (h : s.rstHeld = false) : exec .frameDiscard s = .next (framed s .closed) := by
  simp only [exec, execFrameDiscard, portCommand, h, Bool.false_eq_true, if_false]
  rfl

/-- Before the command is taken a rising edge of MCK brings one bit in. -/
theorem mckRise_of_opening (h : s.rstHeld = false) {bytes : List Byte} {bits : List Bool}
    (hf : s.port.frame = .opening bytes bits) (mdi : Bool) : takePin (.mckRise mdi) s = takeBit s bytes (bits ++ [mdi]) := by
  simp only [takePin, takeMckRise, h, hf, Bool.false_eq_true, if_false]

/-- Before the command is taken: bits come in, the eighth of a byte may bring the command, and MCS discards the frame. -/
theorem edges_of_opening (h : s.rstHeld = false) {bytes : List Byte} {bits : List Bool}
    (hf : s.port.frame = .opening bytes bits) :
    takePin .mcsRise s = exec .frameDiscard s ∧ exec .frameDiscard s = .next (framed s .closed) ∧
    takePin .mckFall s = .next s ∧
    (∀ mdi : Bool, bits.length < 7 → takePin (.mckRise mdi) s = .next (framed s (.opening bytes (bits ++ [mdi])))) ∧
    ∀ (mdi : Bool) (b : Byte), bits ++ [mdi] = (List.range 8).map (fun k => b.getLsbD (7 - k)) →
      (∀ c : Instr, readFrame s.port.locked (bytes ++ [b]) = some c → takePin (.mckRise mdi) s = exec c s) ∧
      (readFrame s.port.locked (bytes ++ [b]) = none →
        takePin (.mckRise mdi) s = .next (framed s (.opening (bytes ++ [b]) []))) := by
  refine ⟨?_, frameDiscard_of_released h, ?_, fun mdi hlen => ?_, fun mdi b hbits => ⟨fun c hc => ?_, fun hnone => ?_⟩⟩
  · simp only [takePin, takeMcsRise, h, hf, Bool.false_eq_true, if_false]
  · simp only [takePin, takeMckFall, h, hf, Bool.false_eq_true, if_false]
  · rw [mckRise_of_opening h hf, takeBit_short s bytes _ (by simp; omega)]
    rfl
  · rw [mckRise_of_opening h hf, hbits, ← msbFirst_byte, takeBit_whole, hc]
  · rw [mckRise_of_opening h hf, hbits, ← msbFirst_byte, takeBit_whole, hnone]
    rfl

/-- Once the command is taken MDO moves at the falls of MCK, and MDI is ignored. -/
theorem edges_of_taken (h : s.rstHeld = false) {reply : List Byte} {falls : Nat} (hf : s.port.frame = .taken reply falls) :
    takePin .mcsRise s = .next (framed s .closed) ∧ takePin .mckFall s = .next (framed s (.taken reply (falls + 1))) ∧
    ∀ mdi : Bool, takePin (.mckRise mdi) s = .next s := by
  simp only [takePin, takeMcsRise, takeMckFall, takeMckRise, h, hf, Bool.false_eq_true, if_false, implies_true, and_true]
  exact ⟨rfl, rfl⟩

theorem edgesAreTaken (s : State) : EdgesAreTaken s :=
  ⟨edges_while_held, fun h => ⟨mcsFall_of_closed h, edges_outside_frame h, mcsFall_of_low h,
    fun _ _ hf => edges_of_opening h hf, fun _ _ hf => edges_of_taken h hf⟩⟩

end Sys2Proof.Machine

namespace Sys2Proof.UplinkMap

open Sys2Proof.Machine

/-- Settles O3: the cases of an idle step, the own events block by block, and the edges by the frame's position. -/
theorem idleStepTakesAnOwnEventOrTicks : Obligations.IdleStepTakesAnOwnEventOrTicks := by
  unfold Obligations.IdleStepTakesAnOwnEventOrTicks
  intro s
  refine ⟨fun hpending => ⟨fun edge rest hpins => step_of_edge hpending hpins, fun hpins => ?_⟩, State.ownEvents_of_held,
    State.mem_ownEvents, edgesAreTaken s⟩
  rw [step_of_quiet_ports hpending hpins]
  refine ⟨fun hnone => ?_, fun c hone => ?_, ownStep_of_several⟩
  · simp only [ownStep, hnone, State.tick]
    split <;> rfl
  · simp only [ownStep, hone]

end Sys2Proof.UplinkMap

/-! SUPPORT. The failing set as factors join and leave it (R23, R26), and when a detector watches a factor (R26, R41). -/

namespace Sys2Proof.FactorSet

/-- A factor not yet failing grows the failing set. -/
theorem or_ne_self_iff {a f : FactorSet} : a ||| f ≠ a ↔ a.has f = false := by
  revert a f
  decide

theorem ne_zero_of_mem {f : FactorSet} (hf : f ∈ [los, lock, hb]) : f ≠ 0#3 := by
  revert f
  decide

theorem or_ne_zero {f : FactorSet} (hf : f ∈ [los, lock, hb]) (a : FactorSet) : a ||| f ≠ 0#3 :=
  fun h => ne_zero_of_mem hf (BitVec.or_eq_zero_iff.mp h).2

/-- One factor leaves the failing set exactly where it was in it. -/
theorem and_not_ne_self_iff {a f : FactorSet} (hf : f ∈ [los, lock, hb]) : a &&& ~~~f ≠ a ↔ a.has f = true := by
  revert a f
  decide

theorem masked_and (m a : FactorSet) : m &&& a &&& ~~~m = 0#3 := by
  rw [BitVec.and_comm m a, BitVec.and_assoc, BitVec.and_not_self]
  exact BitVec.and_zero

/-- A watched factor changes nothing among the factors masked out (R26). -/
theorem put_masked {a m f : FactorSet} (h : a &&& ~~~m = 0#3) (hf : m.has f = true) (bad : Bool) :
    a.put f bad &&& ~~~m = 0#3 := by
  have hwatched : f &&& ~~~m = 0#3 := by
    rw [← beq_iff_eq.mp hf]
    exact masked_and m f
  cases bad with
  | false =>
    calc a &&& ~~~f &&& ~~~m = ~~~f &&& (a &&& ~~~m) := by rw [BitVec.and_comm a, BitVec.and_assoc]
      _ = 0#3 := by rw [h, BitVec.and_zero]
  | true =>
    calc (a ||| f) &&& ~~~m = a &&& ~~~m ||| f &&& ~~~m := BitVec.and_or_distrib_right
      _ = 0#3 := by rw [h, hwatched, BitVec.or_zero]

end Sys2Proof.FactorSet

namespace Sys2Proof.Machine

namespace Detector

theorem watches_iff (d : Detector) (f : FactorSet) :
    d.watches f = true ↔ d.state ≠ .disabled ∧ d.config.mask.has f = true := by
  simp [Detector.watches]

/-- The interval since the previous pulse is good in the window, both ends included (R24). -/
theorem pulseVerdict_of_previous {d : Detector} {last : Nat} (hlast : d.lastPulse = some last) (t : Nat) :
    d.pulseVerdict t =
      some (!decide (d.config.hbMin * 200 ≤ t - last ∧ t - last ≤ d.config.hbMax * 200)) := by
  simp only [Detector.pulseVerdict, hlast, Option.map_some, Bool.decide_and]
  rfl

end Detector

/-- The qualify times that start SUSPECT, in ticks (R22, R27). -/
theorem qualifyTime_ticks : ∀ q ∈ [(QualifyTime.us25, 500), (.us100, 2000), (.us400, 8000)],
    q.1 ≠ .us0 ∧ q.1.us * Config.ticksPerUs = q.2 := by
  decide

/-- The longest glitch that R28 allows each qualify time (log 31). -/
theorem glitch_bound : ∀ q ∈ [(QualifyTime.us0, 0), (.us25, 24), (.us100, 99), (.us400, 399)], q.1.us - 1 = q.2 := by
  decide

end Sys2Proof.Machine

/-! SUPPORT. What each detector operation makes of the state, said once for each detector state that it is taken in
(02, R27 to R38). -/

namespace Sys2Proof.Machine.State

variable {s : State} {i : Fin 4}

/-! ### Moves between images: the own claim (R4) -/

/-- A move to another image is the own claim with that image (R3, R4). -/
theorem transition_eq_ownClaim {d : Detector} {m : MapState} (hm : d.state.image = m)
    (h : (s.detectors.get i).state.image ≠ m) (c : FactorSet) :
    s.transition i d c = ownClaim s i d m (if m = .dark then c else 0#3) := by
  subst hm
  exact Laws.transition_other_image s i d c h.symm

/-- The entry to DARK from a state in service, some watched factor failing (R29). -/
theorem enterDark_eq (hstate : (s.detectors.get i).state.image = .inService) (hfailing : (s.detectors.get i).failing ≠ 0#3) :
    s.enterDark i = darkEntered s i := by
  unfold enterDark
  dsimp only
  rw [if_neg hfailing, transition_eq_ownClaim (m := .dark) rfl (by simp [hstate])]
  rfl

/-- The return to SERVING from RECOVERING (R34, R38). -/
theorem enterServing_eq (hstate : (s.detectors.get i).state = .recovering) (way : ReturnWay) :
    s.enterServing i way = servingEntered s i way := by
  unfold enterServing
  dsimp only
  rw [transition_eq_ownClaim rfl (by simp [hstate, DetState.image])]
  rfl

/-- A detector out of service moves to RECOVERING (R37). -/
theorem startHold_eq_ownClaim (hstate : (s.detectors.get i).state.image ≠ .dark) :
    s.startHold i = ownClaim s i (recoveringFrom s.ticks (s.detectors.get i)) .dark 0#3 := by
  unfold startHold
  dsimp only
  rw [transition_eq_ownClaim rfl hstate]
  rfl

/-- DRAIN's move to DRAINED (R36). -/
theorem drain_eq (hstate : (s.detectors.get i).state.image ≠ .drained) :
    s.drain i = ownClaim s i { s.detectors.get i with
      state := .drained, awaiting := false, qualify := none, suspect := none, hold := none, stability := none }
      .drained 0#3 :=
  transition_eq_ownClaim rfl hstate 0#3

/-- UNDRAIN's move with no watched factor failing (R37). -/
theorem undrain_eq_of_good (hstate : (s.detectors.get i).state = .drained) (hfailing : (s.detectors.get i).failing = 0#3) :
    s.undrain i = ownClaim s i (recoveringFrom s.ticks (s.detectors.get i)) .dark 0#3 := by
  unfold undrain
  dsimp only
  rw [if_pos hfailing, startHold_eq_ownClaim (by simp [hstate, DetState.image])]

/-- UNDRAIN's move with some watched factor failing (R37). -/
theorem undrain_eq_of_failing (hstate : (s.detectors.get i).state = .drained)
    (hfailing : (s.detectors.get i).failing ≠ 0#3) :
    s.undrain i = ownClaim s i { s.detectors.get i with state := .dark } .dark (s.detectors.get i).failing := by
  unfold undrain
  dsimp only
  rw [if_neg hfailing, transition_eq_ownClaim rfl (by simp [hstate, DetState.image])]
  rfl

/-! ### Moves within an image: the detector alone (R4) -/

/-- DARK moves to RECOVERING (R32). -/
theorem startHold_eq_of_dark (hstate : (s.detectors.get i).state = .dark) :
    s.startHold i = s.setDetector i (recoveringFrom s.ticks (s.detectors.get i)) :=
  Laws.transition_same_image s i _ 0#3 (by rw [hstate]; rfl)

/-- A flap: RECOVERING falls back to DARK (R33, R35). -/
theorem flap_eq (hstate : (s.detectors.get i).state = .recovering) :
    s.flap i = (s.setDetector i { s.detectors.get i with
        state := .dark, awaiting := false, hold := none, level := raisedLevel (s.detectors.get i).level }).push
      (s.ownSubject i) (.uplinkFlap (s.detectors.get i).failing (raisedLevel (s.detectors.get i).level)
        (s.detectors.get i).awaiting) := by
  unfold flap
  dsimp only
  rw [Laws.transition_same_image _ _ _ _ (by rw [hstate]; rfl)]
  rfl

/-! ### A factor failure, by the detector's state -/

/-- SERVING goes straight to DARK where there is no qualify time (R27). -/
theorem factorFailure_of_unqualified (hstate : (s.detectors.get i).state = .serving)
    (htq : (s.detectors.get i).config.tq = .us0) (f : FactorSet) : s.factorFailure i f = s.enterDark i := by
  simp only [factorFailure, hstate, htq, if_true]

/-- SERVING goes to SUSPECT, the qualify timer and the suspect record started (R27). -/
theorem factorFailure_of_serving (hstate : (s.detectors.get i).state = .serving)
    (htq : (s.detectors.get i).config.tq ≠ .us0) (f : FactorSet) :
    s.factorFailure i f = s.setDetector i { s.detectors.get i with
      state := .suspect
      qualify := s.after ((s.detectors.get i).config.tq.us * Config.ticksPerUs)
      suspect := some ⟨s.now, (s.detectors.get i).failing⟩ } := by
  simp only [factorFailure, hstate, htq, if_false]
  exact Laws.transition_same_image _ _ _ _ (by rw [hstate]; rfl)

/-- SUSPECT adds the factor to the cause seen (R28). -/
theorem factorFailure_of_suspect (hstate : (s.detectors.get i).state = .suspect) (f : FactorSet) :
    s.factorFailure i f = s.setDetector i { s.detectors.get i with
      suspect := (s.detectors.get i).suspect.map fun r => { r with causeSeen := r.causeSeen ||| f } } := by
  simp only [factorFailure, hstate]

/-- In RECOVERING a factor failure is a flap (R33, R35). -/
theorem factorFailure_of_recovering (hstate : (s.detectors.get i).state = .recovering) (f : FactorSet) :
    s.factorFailure i f = s.flap i := by
  simp only [factorFailure, hstate]

/-- DARK, DRAINED and DISABLED do not move on a factor failure (R26). -/
theorem factorFailure_of_unmoved (hstate : (s.detectors.get i).state = .dark ∨ (s.detectors.get i).state = .drained ∨
    (s.detectors.get i).state = .disabled) (f : FactorSet) : s.factorFailure i f = s := by
  obtain h | h | h := hstate <;> simp only [factorFailure, h]

/-! ### All good, by the detector's state -/

/-- All good ends SUSPECT as a glitch (R28). -/
theorem allGood_of_suspect (hstate : (s.detectors.get i).state = .suspect) {r : SuspectRecord}
    (hr : (s.detectors.get i).suspect = some r) :
    s.allGood i = (s.setDetector i { s.detectors.get i with state := .serving, qualify := none, suspect := none }).push
      (s.ownSubject i)
      (.uplinkGlitch r.causeSeen (glitchDuration s.now r.entryTime (s.detectors.get i).config.tq)) := by
  simp only [allGood, hstate, hr]
  rw [Laws.transition_same_image _ _ _ _ (by rw [hstate]; rfl)]
  rfl

/-- All good moves DARK to RECOVERING (R32). -/
theorem allGood_of_dark (hstate : (s.detectors.get i).state = .dark) :
    s.allGood i = s.setDetector i (recoveringFrom s.ticks (s.detectors.get i)) := by
  simp only [allGood, hstate]
  exact startHold_eq_of_dark hstate

/-- The other states do not move on all good (R23, R26). -/
theorem allGood_of_unmoved (hstate : (s.detectors.get i).state = .serving ∨ (s.detectors.get i).state = .recovering ∨
    (s.detectors.get i).state = .drained ∨ (s.detectors.get i).state = .disabled) : s.allGood i = s := by
  obtain h | h | h | h := hstate <;> simp only [allGood, h]

/-! ### A factor's change of state (R23) -/

theorem setFactor_of_same {f : FactorSet} {bad : Bool}
    (h : (s.detectors.get i).failing.put f bad = (s.detectors.get i).failing) : s.setFactor i f bad = s := by
  unfold setFactor
  exact if_pos h

theorem setFactor_of_failure {f : FactorSet} (h : (s.detectors.get i).failing ||| f ≠ (s.detectors.get i).failing) :
    s.setFactor i f true =
      (s.setDetector i { s.detectors.get i with failing := (s.detectors.get i).failing ||| f }).factorFailure i f := by
  unfold setFactor
  exact if_neg h

theorem setFactor_of_good {f : FactorSet} (h : (s.detectors.get i).failing &&& ~~~f ≠ (s.detectors.get i).failing) :
    s.setFactor i f false =
      let t := s.setDetector i { s.detectors.get i with failing := (s.detectors.get i).failing &&& ~~~f }
      if (s.detectors.get i).failing &&& ~~~f = 0#3 then t.allGood i else t := by
  unfold setFactor
  exact if_neg h

/-! ### Heartbeats (R24) -/

/-- A pulse on a line that is not watched is not seen (R26). -/
theorem heartbeatPulse_of_unwatched (h : (s.detectors.get i).watches FactorSet.hb = false) :
    exec (.heartbeatPulse i) s = .next s := by
  simp only [exec, execHeartbeatPulse, h, Bool.false_eq_true, if_false]

/-- The state after the arrival of a pulse, before the interval is judged (R24). -/
def pulseSeen (s : State) (i : Fin 4) : State :=
  s.setDetector i { s.detectors.get i with
    lastPulse := some s.ticks, watchdog := some (s.ticks + (s.detectors.get i).config.hbMax * 200) }

/-- A pulse on a watched line: the verdict on its interval, where it ends one, moves the HB factor (R24). -/
theorem heartbeatPulse_of_watched (h : (s.detectors.get i).watches FactorSet.hb = true) :
    ((s.detectors.get i).pulseVerdict s.ticks = none → exec (.heartbeatPulse i) s = .next (s.pulseSeen i)) ∧
    ∀ bad, (s.detectors.get i).pulseVerdict s.ticks = some bad →
      exec (.heartbeatPulse i) s = .next ((s.pulseSeen i).setFactor i FactorSet.hb bad) := by
  refine ⟨fun hv => ?_, fun bad hv => ?_⟩
  all_goals
    simp only [exec, execHeartbeatPulse, h, if_true, hv]
    rfl

end Sys2Proof.Machine.State

namespace Sys2Proof.Machine

/-- A command that names a detector is taken by its effect, RST released and the station not OFFLINE (R156). -/
theorem detectorCommand_taken {s : State} (hrst : s.rstHeld = false) (hmode : s.roster.mode ≠ .offline) (i : Fin 4)
    (effect : State → Fin 4 → State) : detectorCommand (idByte i) s effect = .next (effect s i) := by
  simp only [detectorCommand, portCommand, hrst, Laws.localIndexArg_idByte, hmode, Bool.false_eq_true, if_false]

end Sys2Proof.Machine

/-! SUPPORT. The lawful detectors by their states (R21, R26, R30, R31), and the moves from one lawful detector to another. -/

namespace Sys2Proof.Machine.Detector

variable {d x : Detector}

/-- What is lawful in every state alike: masked factors are good, the watchdog runs where HB is watched alone, the level is
at most 6 (R25, R26, R30). -/
structure Sound (d : Detector) : Prop where
  masked : d.failing &&& ~~~d.config.mask = 0#3
  watchdog : d.watchdog.isSome = true → d.state ≠ .disabled ∧ d.config.mask.has FactorSet.hb = true
  level : d.level ≤ 6

/-- Neither awaiting release nor any timer but the watchdog, and no suspect record. -/
def AtRest (d : Detector) : Prop :=
  d.awaiting = false ∧ d.hold = none ∧ d.qualify = none ∧ d.suspect = none ∧ d.stability = none

/-- What each state asks of the other items (R21, R27 to R38). -/
def Fits (d : Detector) : Prop :=
  match d.state with
  | .disabled => d.AtRest ∧ d.failing = 0#3
  | .drained => d.AtRest
  | .dark => d.AtRest ∧ d.failing ≠ 0#3
  | .recovering => (d.hold.isSome = true ↔ d.awaiting = false) ∧ d.qualify = none ∧ d.suspect = none ∧ d.stability = none ∧
      d.failing = 0#3
  | .serving => d.awaiting = false ∧ d.hold = none ∧ d.qualify = none ∧ d.suspect = none ∧ d.failing = 0#3
  | .suspect => d.awaiting = false ∧ d.hold = none ∧ d.qualify.isSome = true ∧ d.suspect.isSome = true ∧ d.failing ≠ 0#3

theorem sound_iff : d.Sound ↔ d.failing &&& ~~~d.config.mask = 0#3 ∧
    (d.watchdog.isSome = true → d.state ≠ .disabled ∧ d.config.mask.has FactorSet.hb = true) ∧ d.level ≤ 6 :=
  ⟨fun h => ⟨h.masked, h.watchdog, h.level⟩, fun ⟨masked, watchdog, level⟩ => ⟨masked, watchdog, level⟩⟩

/-- The twelve laws of a detector are those of every state and those of its own: in one state, each law that is not of every
state asks for a part of `Fits` or nothing. -/
theorem lawful_iff : d.Lawful ↔ d.Sound ∧ d.Fits := by
  rw [sound_iff]
  cases h : d.state
  all_goals
    simp only [Lawful, Fits, AtRest, h, ← Option.not_isSome_iff_eq_none]
    grind

namespace Fits

variable (h : d.Fits)

include h

theorem of_disabled (hstate : d.state = .disabled) : d.AtRest ∧ d.failing = 0#3 := by
  simpa only [Fits, hstate] using h

theorem of_drained (hstate : d.state = .drained) : d.AtRest := by
  simpa only [Fits, hstate] using h

theorem of_dark (hstate : d.state = .dark) : d.AtRest ∧ d.failing ≠ 0#3 := by
  simpa only [Fits, hstate] using h

theorem of_recovering (hstate : d.state = .recovering) : (d.hold.isSome = true ↔ d.awaiting = false) ∧ d.qualify = none ∧
    d.suspect = none ∧ d.stability = none ∧ d.failing = 0#3 := by
  simpa only [Fits, hstate] using h

theorem of_serving (hstate : d.state = .serving) :
    d.awaiting = false ∧ d.hold = none ∧ d.qualify = none ∧ d.suspect = none ∧ d.failing = 0#3 := by
  simpa only [Fits, hstate] using h

theorem of_suspect (hstate : d.state = .suspect) :
    d.awaiting = false ∧ d.hold = none ∧ d.qualify.isSome = true ∧ d.suspect.isSome = true ∧ d.failing ≠ 0#3 := by
  simpa only [Fits, hstate] using h

/-- A detector in service neither awaits release nor holds (R21). -/
theorem of_inService (hstate : d.state.image = .inService) : d.awaiting = false ∧ d.hold = none := by
  cases hs : d.state with
  | serving =>
    obtain ⟨hawaiting, hhold, -, -, -⟩ := h.of_serving hs
    exact ⟨hawaiting, hhold⟩
  | suspect =>
    obtain ⟨hawaiting, hhold, -, -, -⟩ := h.of_suspect hs
    exact ⟨hawaiting, hhold⟩
  | _ => simp [hs, DetState.image] at hstate

/-- A watched factor fails in SUSPECT, DARK and DRAINED alone. -/
theorem state_of_failing (hfailing : d.failing ≠ 0#3) : d.state = .suspect ∨ d.state = .dark ∨ d.state = .drained := by
  unfold Fits at h
  cases hs : d.state <;> simp_all

end Fits

/-! ### What stays in a move -/

theorem raisedLevel_le (level : Nat) : raisedLevel level ≤ 6 := Nat.min_le_left 6 (level + 1)

namespace Sound

variable (h : d.Sound)

include h

/-- A move to a state in which the detector watches leaves the factors, the mask and the watchdog. -/
theorem moved (state : x.state ≠ .disabled) (level : x.level ≤ 6) (failing : x.failing = d.failing := by rfl)
    (config : x.config = d.config := by rfl) (watchdog : x.watchdog = d.watchdog := by rfl) : x.Sound where
  masked := by rw [failing, config]; exact h.masked
  watchdog hx := ⟨state, by rw [config]; exact (h.watchdog (by rwa [← watchdog])).2⟩
  level := level

/-- A watched factor fails or becomes good (R23, R26). -/
theorem putFactor {f : FactorSet} (hf : d.watches f = true) (bad : Bool) :
    { d with failing := d.failing.put f bad }.Sound :=
  ⟨FactorSet.put_masked h.masked ((Detector.watches_iff d f).mp hf).2 bad, h.watchdog, h.level⟩

/-- The level after an entry to DARK from service (R29, R31). -/
theorem darkLevel_le : (if d.stability.isSome then raisedLevel d.level else d.level) ≤ 6 := by
  split
  · exact raisedLevel_le _
  · exact h.level

/-- A detector at rest whose watched factors are all good starts its restore hold (R32, R37). -/
theorem recovering (hrest : d.AtRest) (hgood : d.failing = 0#3) (t : Nat) : (recoveringFrom t d).Lawful := by
  obtain ⟨-, -, hqualify, hsuspect, hstability⟩ := hrest
  exact lawful_iff.mpr ⟨h.moved (by simp [recoveringFrom]) h.level, by simp [recoveringFrom], hqualify, hsuspect, hstability,
    hgood⟩

/-- A detector at rest with a watched factor failing is DARK (R37, R42). -/
theorem dark (hrest : d.AtRest) (hfailing : d.failing ≠ 0#3) : { d with state := .dark }.Lawful :=
  lawful_iff.mpr ⟨h.moved (by simp) h.level, hrest, hfailing⟩

end Sound

/-! ### Moves, by the state left -/

/-- A lawful detector is DRAINED, every timer but the watchdog abandoned (R36). -/
theorem Lawful.drained (h : d.Lawful) :
    { d with state := .drained, awaiting := false, qualify := none, suspect := none, hold := none,
             stability := none }.Lawful :=
  lawful_iff.mpr ⟨(lawful_iff.mp h).1.moved (by simp) (lawful_iff.mp h).1.level, ⟨rfl, rfl, rfl, rfl, rfl⟩⟩

/-- RECOVERING returns to SERVING (R34, R38). -/
theorem Lawful.served (h : d.Lawful) (hstate : d.state = .recovering) (stability : Timer) :
    { d with state := .serving, awaiting := false, hold := none, stability := stability }.Lawful := by
  obtain ⟨hsound, hfits⟩ := lawful_iff.mp h
  obtain ⟨-, hqualify, hsuspect, -, hgood⟩ := hfits.of_recovering hstate
  exact lawful_iff.mpr ⟨hsound.moved (by simp) hsound.level, rfl, rfl, hqualify, hsuspect, hgood⟩

/-- RECOVERING awaits release once its hold has expired (R34). -/
theorem Lawful.awaited (h : d.Lawful) (hstate : d.state = .recovering) :
    { d with awaiting := true, hold := none }.Lawful := by
  obtain ⟨hsound, hfits⟩ := lawful_iff.mp h
  obtain ⟨-, hitems⟩ := hfits.of_recovering hstate
  refine lawful_iff.mpr ⟨hsound.moved (by simp [hstate]) hsound.level, ?_⟩
  simp only [Fits, hstate]
  exact ⟨by simp, hitems⟩

/-- The level returns to 0 as the stability timer expires (R31). -/
theorem Lawful.settled (h : d.Lawful) : { d with level := 0, stability := none }.Lawful := by
  obtain ⟨hsound, hfits⟩ := lawful_iff.mp h
  refine lawful_iff.mpr ⟨⟨hsound.masked, hsound.watchdog, Nat.zero_le 6⟩, ?_⟩
  unfold Fits at hfits ⊢
  cases hs : d.state <;> simp_all [AtRest]

/-- A pulse starts the watchdog again where HB is watched (R24, R26). -/
theorem Lawful.pulsed (h : d.Lawful) (hwatched : d.watches FactorSet.hb = true) (lastPulse : Option Nat) (watchdog : Timer) :
    { d with lastPulse := lastPulse, watchdog := watchdog }.Lawful := by
  obtain ⟨hsound, hfits⟩ := lawful_iff.mp h
  exact lawful_iff.mpr ⟨⟨hsound.masked, fun _ => (Detector.watches_iff d _).mp hwatched, hsound.level⟩, hfits⟩

/-- A DISABLED detector may be configured in any way (R22, R153). -/
theorem Lawful.configured (h : d.Lawful) (hstate : d.state = .disabled) (c : UplinkConfig) : { d with config := c }.Lawful := by
  obtain ⟨hsound, hfits⟩ := lawful_iff.mp h
  obtain ⟨-, hgood⟩ := hfits.of_disabled hstate
  exact lawful_iff.mpr ⟨⟨by rw [hgood, BitVec.zero_and], fun hw => absurd hstate (hsound.watchdog hw).1, hsound.level⟩, hfits⟩

/-- The watchdog stops (R25). -/
theorem Lawful.watchdog_stopped (h : d.Lawful) : { d with watchdog := none }.Lawful := by
  obtain ⟨hsound, hfits⟩ := lawful_iff.mp h
  exact lawful_iff.mpr ⟨⟨hsound.masked, fun hw => by simp at hw, hsound.level⟩, hfits⟩

/-! ### Moves on a factor's change: `d` has the factors as they are now, and fitted its state with the factors `a` as they
were (R23) -/

section FactorMoves

variable (hsound : d.Sound) {a : FactorSet} (hfits : { d with failing := a }.Fits)

include hsound hfits

/-- SERVING goes to SUSPECT (R27). -/
theorem suspected (hstate : d.state = .serving) (hfailing : d.failing ≠ 0#3) (expiry : Nat) (r : SuspectRecord) :
    { d with state := .suspect, qualify := some expiry, suspect := some r }.Lawful := by
  obtain ⟨hawaiting, hhold, -, -, -⟩ := hfits.of_serving hstate
  exact lawful_iff.mpr ⟨hsound.moved (by simp) hsound.level, hawaiting, hhold, rfl, rfl, hfailing⟩

/-- SUSPECT stays, its suspect record rewritten (R28). -/
theorem suspect_kept (hstate : d.state = .suspect) (hfailing : d.failing ≠ 0#3) (f : SuspectRecord → SuspectRecord) :
    { d with suspect := d.suspect.map f }.Lawful := by
  obtain ⟨hawaiting, hhold, hqualify, hsuspect, -⟩ := hfits.of_suspect hstate
  refine lawful_iff.mpr ⟨hsound.moved (by simp [hstate]) hsound.level, ?_⟩
  simp only [Fits, hstate]
  exact ⟨hawaiting, hhold, hqualify, by simpa using hsuspect, hfailing⟩

/-- SUSPECT returns to SERVING (R28). -/
theorem glitched (hstate : d.state = .suspect) (hgood : d.failing = 0#3) :
    { d with state := .serving, qualify := none, suspect := none }.Lawful := by
  obtain ⟨hawaiting, hhold, -, -, -⟩ := hfits.of_suspect hstate
  exact lawful_iff.mpr ⟨hsound.moved (by simp) hsound.level, hawaiting, hhold, rfl, rfl, hgood⟩

/-- A detector in service goes to DARK (R27, R29). -/
theorem darkened (hstate : d.state.image = .inService) (hfailing : d.failing ≠ 0#3) :
    { d with state := .dark, qualify := none, suspect := none, stability := none,
             level := if d.stability.isSome then raisedLevel d.level else d.level }.Lawful := by
  obtain ⟨hawaiting, hhold⟩ := hfits.of_inService hstate
  exact lawful_iff.mpr ⟨hsound.moved (by simp) hsound.darkLevel_le, ⟨hawaiting, hhold, rfl, rfl, rfl⟩, hfailing⟩

/-- RECOVERING falls back to DARK (R33, R35). -/
theorem flapped (hstate : d.state = .recovering) (hfailing : d.failing ≠ 0#3) :
    { d with state := .dark, awaiting := false, hold := none, level := raisedLevel d.level }.Lawful := by
  obtain ⟨-, hqualify, hsuspect, hstability, -⟩ := hfits.of_recovering hstate
  exact lawful_iff.mpr ⟨hsound.moved (by simp) (raisedLevel_le _), ⟨rfl, rfl, hqualify, hsuspect, hstability⟩, hfailing⟩

/-- DARK moves to RECOVERING (R32). -/
theorem recovered (hstate : d.state = .dark) (hgood : d.failing = 0#3) (t : Nat) : (recoveringFrom t d).Lawful := by
  obtain ⟨hrest, -⟩ := hfits.of_dark hstate
  exact hsound.recovering hrest hgood t

/-- Where some watched factor fails, SUSPECT, DARK and DRAINED may stay (R23, R26). -/
theorem unmoved_of_failing (hstate : d.state = .suspect ∨ d.state = .dark ∨ d.state = .drained) (hfailing : d.failing ≠ 0#3) :
    d.Lawful := by
  refine lawful_iff.mpr ⟨hsound, ?_⟩
  unfold Fits at hfits ⊢
  obtain hs | hs | hs := hstate <;> simp_all [AtRest]

/-- Where every watched factor is good, SERVING, RECOVERING and DRAINED may stay (R23, R26). -/
theorem unmoved_of_good (hstate : d.state = .serving ∨ d.state = .recovering ∨ d.state = .drained) (hgood : d.failing = 0#3) :
    d.Lawful := by
  refine lawful_iff.mpr ⟨hsound, ?_⟩
  unfold Fits at hfits ⊢
  obtain hs | hs | hs := hstate <;> simp_all [AtRest]

end FactorMoves

end Sys2Proof.Machine.Detector

/-! SUPPORT. The detector that each move leaves in the table, and that a factor's change leaves a lawful one. -/

namespace Sys2Proof.Machine.State

variable {s : State} {i : Fin 4}

/-- A transition replaces one detector. -/
@[simp] theorem transition_detectors (s : State) (i : Fin 4) (d : Detector) (c : FactorSet) :
    (s.transition i d c).detectors = s.detectors.set i d := by
  obtain ⟨_, _, _, h⟩ := transition_frame s i d c
  rw [h]

theorem enterDark_detectors (hfailing : (s.detectors.get i).failing ≠ 0#3) :
    (s.enterDark i).detectors = s.detectors.set i { s.detectors.get i with
      state := .dark, qualify := none, suspect := none, stability := none
      level := if (s.detectors.get i).stability.isSome then raisedLevel (s.detectors.get i).level
        else (s.detectors.get i).level } := by
  unfold enterDark
  dsimp only
  rw [if_neg hfailing]
  simp only [push_detectors, transition_detectors]

/-- The detectors of `t` are those of `s` with the detector `i` made a lawful one. -/
def Remade (s t : State) (i : Fin 4) : Prop := ∃ x : Detector, x.Lawful ∧ t.detectors = s.detectors.set i x

theorem remade_set {x : Detector} (hx : x.Lawful) : Remade s (s.setDetector i x) i := ⟨x, hx, rfl⟩

theorem remade_self (h : (s.detectors.get i).Lawful) : Remade s s i := ⟨_, h, (Table.set_get _ i).symm⟩

theorem Remade.of_setDetector {t : State} {d : Detector} (h : Remade (s.setDetector i d) t i) : Remade s t i := by
  obtain ⟨x, hx, ht⟩ := h
  exact ⟨x, hx, by rw [ht, setDetector_detectors, Table.set_set]⟩

section FactorEvents

variable {d : Detector} (hd : s.detectors.get i = d) (hsound : d.Sound) {a : FactorSet}
  (hfits : { d with failing := a }.Fits) (hwatching : d.state ≠ .disabled)

include hd hsound hfits hwatching

/-- A factor failure leaves a lawful detector of one that fitted its state before it (R27 to R35). -/
theorem factorFailure_remade (hfailing : d.failing ≠ 0#3) (f : FactorSet) : Remade s (s.factorFailure i f) i := by
  subst hd
  cases hstate : (s.detectors.get i).state with
  | serving =>
    by_cases htq : (s.detectors.get i).config.tq = .us0
    · rw [factorFailure_of_unqualified hstate htq]
      exact ⟨_, Detector.darkened hsound hfits (by rw [hstate]; rfl) hfailing, enterDark_detectors hfailing⟩
    · rw [factorFailure_of_serving hstate htq]
      exact remade_set (Detector.suspected hsound hfits hstate hfailing _ _)
  | suspect =>
    rw [factorFailure_of_suspect hstate]
    exact remade_set (Detector.suspect_kept hsound hfits hstate hfailing _)
  | recovering =>
    rw [factorFailure_of_recovering hstate, flap_eq hstate]
    exact ⟨_, Detector.flapped hsound hfits hstate hfailing, rfl⟩
  | dark | drained =>
    rw [factorFailure_of_unmoved (by simp [hstate])]
    exact remade_self (Detector.unmoved_of_failing hsound hfits (by simp [hstate]) hfailing)
  | disabled => exact absurd hstate hwatching

/-- All good leaves a lawful detector of one that fitted its state before it (R28, R32). -/
theorem allGood_remade (hgood : d.failing = 0#3) : Remade s (s.allGood i) i := by
  subst hd
  cases hstate : (s.detectors.get i).state with
  | suspect =>
    obtain ⟨-, -, -, hsuspect, -⟩ := hfits.of_suspect hstate
    obtain ⟨r, hr⟩ := Option.isSome_iff_exists.mp hsuspect
    rw [allGood_of_suspect hstate hr]
    exact ⟨_, Detector.glitched hsound hfits hstate hgood, rfl⟩
  | dark =>
    rw [allGood_of_dark hstate]
    exact remade_set (Detector.recovered hsound hfits hstate hgood _)
  | disabled => exact absurd hstate hwatching
  | serving | recovering | drained =>
    rw [allGood_of_unmoved (by simp [hstate])]
    exact remade_self (Detector.unmoved_of_good hsound hfits (by simp [hstate]) hgood)

end FactorEvents

/-- A watched factor's change of state leaves a lawful detector lawful (R23, R26). -/
theorem setFactor_remade (hlawful : (s.detectors.get i).Lawful) {f : FactorSet} (hwatched : (s.detectors.get i).watches f = true)
    (bad : Bool) : Remade s (s.setFactor i f bad) i := by
  obtain ⟨hsound, hfits⟩ := Detector.lawful_iff.mp hlawful
  obtain ⟨hwatching, -⟩ := (Detector.watches_iff _ f).mp hwatched
  by_cases hsame : (s.detectors.get i).failing.put f bad = (s.detectors.get i).failing
  · rw [setFactor_of_same hsame]
    exact remade_self hlawful
  have hput := hsound.putFactor hwatched bad
  cases bad with
  | true =>
    rw [setFactor_of_failure hsame]
    refine (factorFailure_remade (Table.get_set_self ..) hput hfits hwatching (fun hnone => hsame ?_) f).of_setDetector
    obtain ⟨hold, hnew⟩ := BitVec.or_eq_zero_iff.mp hnone
    rw [hold, hnew]
    rfl
  | false =>
    rw [setFactor_of_good hsame]
    dsimp only
    split
    · next hgood =>
      exact (allGood_remade (Table.get_set_self ..) hput hfits hwatching hgood).of_setDetector
    · next hfailing =>
      have hbefore : (s.detectors.get i).failing ≠ 0#3 := fun hnone => hfailing (by rw [hnone, BitVec.zero_and])
      exact remade_set (Detector.unmoved_of_failing hput hfits (hfits.state_of_failing hbefore) hfailing)

end Sys2Proof.Machine.State

/-! SUPPORT. The commands that leave the detectors and the configuration lock, and neither enter OFFLINE nor leave it. -/

namespace Sys2Proof

/-- The commands that make, configure or move a detector: the resets, SET UPLINK, the operator's three commands on an uplink,
the condition lines and the detectors' timers. -/
def Instr.reachesDetectors : Instr → Bool
  | .fullReset _ | .start | .restart | .setUplink _ | .drain _ | .undrain _ | .release _ | .losChange _ _ | .lockChange _ _
  | .heartbeatPulse _ | .heartbeatWatchdogExpiry _ | .qualifyTimerExpiry _ | .restoreHoldExpiry _
  | .stabilityTimerExpiry _ => true
  | _ => false

end Sys2Proof

namespace Sys2Proof.Machine

/-- From `s` to `t` the detectors and the lock stand, and OFFLINE is neither entered nor left. -/
structure Undisturbed (s t : State) : Prop where
  detectors : t.detectors = s.detectors
  locked : t.port.locked = s.port.locked
  offline : t.roster.mode = .offline ↔ s.roster.mode = .offline

namespace Undisturbed

variable {s t u : State}

theorem of_same (detectors : t.detectors = s.detectors := by simp) (locked : t.port.locked = s.port.locked := by simp)
    (mode : t.roster.mode = s.roster.mode := by simp) : Undisturbed s t :=
  ⟨detectors, locked, by rw [mode]⟩

theorem refl (s : State) : Undisturbed s s := of_same rfl rfl rfl

theorem trans (h : Undisturbed s t) (h' : Undisturbed t u) : Undisturbed s u :=
  ⟨h'.detectors.trans h.detectors, h'.locked.trans h.locked, h'.offline.trans h.offline⟩

theorem withLane (s : State) (l : Lane) : Undisturbed s (s.withLane l) := of_same rfl rfl rfl

theorem replied (s : State) (status : Status) (data : List Byte) : Undisturbed s (s.replied status data) := of_same rfl rfl rfl

theorem refuse (s : State) (status : Status) : Undisturbed s (s.refuse status) := replied s status []

theorem done (s : State) : Undisturbed s s.done := replied s .done []

/-! ### Modes -/

/-- An entry to JOINING from a mode that is not OFFLINE (R85). -/
theorem rejoined (hs : s.roster.mode ≠ .offline) (c : ModeCause) : Undisturbed s (s.enterJoining.changeMode .joining c) :=
  ⟨rfl, rfl, iff_of_false (by simp [State.changeMode_frame]) hs⟩

/-- The join guard moves JOINING to ACTIVE alone (R86). -/
theorem testGuard (h : Undisturbed s t) : Undisturbed s t.testGuard := by
  refine h.trans ?_
  unfold State.testGuard
  split
  · next hguard => exact ⟨rfl, rfl, iff_of_false (by simp [State.changeMode_frame]) (by simp [hguard.1])⟩
  · exact refl t

theorem isolate (hs : s.roster.mode ≠ .offline) : Undisturbed s s.isolate :=
  ⟨rfl, rfl, iff_of_false (by simp [State.isolate, State.changeMode_frame]) hs⟩

theorem leave (hs : s.roster.mode ≠ .offline) : Undisturbed s s.leave := by
  unfold State.leave
  dsimp only
  split <;> exact ⟨rfl, rfl, iff_of_false (by simp [State.changeMode_frame]) hs⟩

/-! ### The end of a won notice -/

theorem bookkeep (n : Notice) (tally : StationSet) (s : State) (k : Fin 16) : Undisturbed s (State.bookkeep n tally s k) := by
  unfold State.bookkeep
  dsimp only
  split
  · split
    · exact of_same
    · split <;> exact of_same
  · exact refl s

theorem settleAll (tally : StationSet) (s : State) (l : List (Fin 4)) : Undisturbed s (l.foldl (State.settleEntry tally) s) := by
  obtain ⟨en, ev, h⟩ := State.settleAll_frame tally s l
  rw [h]
  exact of_same rfl rfl rfl

theorem endOfWonNotice (s : State) (n : Notice) (tally : Option StationSet) : Undisturbed s (s.endOfWonNotice n tally) := by
  have booked (t : StationSet) : Undisturbed s (State.codes.foldl (State.bookkeep n t) s) :=
    List.foldlRecOn _ _ (refl s) fun x h k _ => h.trans (bookkeep n t x k)
  have settled (x : State) (hx : Undisturbed s x) :
      Undisturbed s (n.carried.foldl (State.settleEntry (tally.getD 0#16)) x) := hx.trans (settleAll ..)
  unfold State.endOfWonNotice
  cases tally with
  | none => exact (settled s (refl s)).trans (of_same rfl rfl rfl)
  | some t => exact (settled _ (booked t)).trans (of_same rfl rfl rfl)

/-- The eighth fault isolates a station that drives the lane alone (R89). -/
theorem wonNoticeEnds (s : State) (n : Notice) (tally : Option StationSet) : Undisturbed s (s.wonNoticeEnds n tally) := by
  unfold State.wonNoticeEnds
  dsimp only
  generalize ({ s.lane with
    tx := TxState.idle, captured := none, tally := _, abortEnd := none, gapEnd := _, faults := _, flags := _ } : Lane) = l
  have ended : Undisturbed s ((s.withLane l).endOfWonNotice n tally) := (withLane s l).trans (endOfWonNotice ..)
  refine iteInduction (fun ⟨_, _, htransmits⟩ => ended.trans (isolate fun hoffline => ?_)) fun _ => ended.testGuard
  simp [ended.offline.mp hoffline, Mode.transmits] at htransmits

/-! ### Reception -/

theorem applyRecords (un : Bool) (k : Fin 16) (s : State) (l : List Record) :
    Undisturbed s (l.foldl (State.applyRecord un k) s) := by
  obtain ⟨mp, en, ev, h⟩ := State.applyRecords_frame un k s l
  rw [h]
  exact of_same rfl rfl rfl

theorem takeNotice (s : State) (n : RxNotice) : Undisturbed s (s.takeNotice n) := by
  unfold State.takeNotice
  dsimp only
  refine trans ?_ (applyRecords ..)
  split <;> exact of_same rfl rfl rfl

theorem loseSlot (s : State) (k : Fin 16) (x : Slot) (subject : Byte) (d : Detail) :
    Undisturbed s (((s.setSlot k x).push subject d).rosterClaim k) := of_same

theorem fallSilent (s : State) (k : Fin 16) : Undisturbed s (s.fallSilent k) := (loseSlot ..).testGuard

theorem takeForeign (s : State) (n : RxNotice) : Undisturbed s (s.takeForeign n) := by
  unfold State.takeForeign
  dsimp only
  split
  · exact of_same
  · exact (loseSlot ..).testGuard

theorem receive (s : State) (n : RxNotice) : Undisturbed s (s.receive n) := by
  have dropped (f : LaneFlags) : Undisturbed s (s.withFlags f).discard := of_same rfl rfl rfl
  have closing (f : LaneFlags) (l : Lane) : Undisturbed s ((s.withFlags f).withLane l) := of_same rfl rfl rfl
  unfold State.receive
  dsimp only
  split
  · exact dropped _
  · exact dropped _
  · split
    · exact dropped _
    · exact (dropped _).trans (takeForeign ..)
  · split
    · exact closing ..
    · exact (closing ..).trans (takeNotice ..)

/-! ### The commands of the management port -/

theorem exec_frameDiscard (s : State) : AnswersIn (execFrameDiscard s) (Undisturbed s) :=
  answersIn_portCommand (refl s) (of_same rfl rfl rfl)

theorem exec_unknownCommand (s : State) (code : Byte) : AnswersIn (execUnknownCommand code s) (Undisturbed s) :=
  answersIn_portCommand (refl s) (refuse ..)

theorem exec_setStation (s : State) (fingerprint : Half) (period silence : Byte) :
    AnswersIn (execSetStation fingerprint period silence s) (Undisturbed s) := by
  refine answersIn_configure (refl s) (refuse ..) ?_
  split
  · exact of_same rfl rfl rfl
  · exact refuse ..

theorem defineGroup (s : State) (g : Fin 256) (revert : RevertMode) (tiers : List (List Byte)) :
    Undisturbed s (s.defineGroup g revert tiers) := by
  unfold State.defineGroup
  split
  · exact refuse ..
  · split
    · split
      · exact refuse ..
      · exact of_same rfl rfl rfl
    · exact refuse ..

theorem exec_writeGroup (s : State) (args : List Byte) : AnswersIn (execWriteGroup args s) (Undisturbed s) := by
  refine answersIn_configure (refl s) (refuse ..) ?_
  split
  · exact of_same rfl rfl rfl
  · exact refuse ..
  · exact defineGroup ..

theorem exec_clearGroup (s : State) (group : Byte) : AnswersIn (execClearGroup group s) (Undisturbed s) :=
  answersIn_configure (refl s) (refuse ..) (of_same rfl rfl rfl)

theorem exec_resteer (s : State) (group : Byte) : AnswersIn (execResteer group s) (Undisturbed s) := by
  refine answersIn_portCommand (refl s) ?_
  dsimp only
  split
  · exact refuse ..
  · split
    · exact refuse ..
    · exact of_same

theorem exec_leave (s : State) : AnswersIn (execLeave s) (Undisturbed s) := by
  have left (hs : s.roster.mode ≠ .offline) : Undisturbed s s.leave.done := (leave hs).trans (done _)
  refine answersIn_portCommand (refl s) ?_
  split
  · exact refuse ..
  · exact done s
  all_goals
    next h => exact left (by simp [h])

theorem exec_rejoin (s : State) : AnswersIn (execRejoin s) (Undisturbed s) := by
  have joined (hs : s.roster.mode ≠ .offline) : Undisturbed s (s.enterJoining.changeMode .joining .host).done :=
    (rejoined hs _).trans (done _)
  refine answersIn_portCommand (refl s) ?_
  split
  · next h => exact joined (by simp [h])
  · next h => exact joined (by simp [h])
  all_goals exact refuse ..

theorem exec_setEventReporting (s : State) (trigger timeout : Byte) :
    AnswersIn (execSetEventReporting trigger timeout s) (Undisturbed s) := by
  refine answersIn_portCommand (refl s) ?_
  split
  · exact of_same rfl rfl rfl
  · exact refuse ..

theorem exec_readStatus (s : State) : AnswersIn (execReadStatus s) (Undisturbed s) :=
  answersIn_portCommand (refl s) (of_same rfl rfl rfl)

theorem exec_readEvents (s : State) (n : Byte) : AnswersIn (execReadEvents n s) (Undisturbed s) :=
  answersIn_portCommand (refl s) (iteInduction (fun _ => of_same rfl rfl rfl) fun _ => refuse ..)

theorem exec_readMap (s : State) (which : Byte) : AnswersIn (execReadMap which s) (Undisturbed s) := by
  refine answersIn_portCommand (refl s) ?_
  split
  · exact of_same rfl rfl rfl
  · split
    · exact of_same rfl rfl rfl
    · exact refuse ..

theorem exec_readRoster (s : State) : AnswersIn (execReadRoster s) (Undisturbed s) :=
  answersIn_portCommand (refl s) (replied ..)

theorem exec_readGroup (s : State) (group : Byte) : AnswersIn (execReadGroup group s) (Undisturbed s) :=
  answersIn_portCommand (refl s) (replied ..)

theorem exec_probe (s : State) (group : Byte) (hash : Half) : AnswersIn (execProbe group hash s) (Undisturbed s) :=
  answersIn_portCommand (refl s) (replied ..)

/-! ### The lane and the timers -/

theorem exec_txMismatch (s : State) : AnswersIn (execTxMismatch s) (Undisturbed s) := by
  refine answersIn_next.mpr ?_
  split
  · exact withLane ..
  · exact withLane ..
  all_goals exact refl s

theorem exec_abortPatternEnd (s : State) : AnswersIn (execAbortPatternEnd s) (Undisturbed s) := by
  refine answersIn_next.mpr ?_
  split
  · split
    · exact wonNoticeEnds ..
    · exact withLane ..
  · exact refl s

theorem exec_noticeCompleted (s : State) (slots : StationSet) : AnswersIn (execNoticeCompleted slots s) (Undisturbed s) := by
  refine answersIn_next.mpr ?_
  split
  · exact wonNoticeEnds ..
  · exact refl s

theorem exec_noticeDecision (s : State) (n : RxNotice) : AnswersIn (execNoticeDecision n s) (Undisturbed s) := by
  have moved : Undisturbed s (if s.lane.tx = .sending then s.withLane { s.lane with tx := .closing } else s) :=
    iteInduction (fun _ => withLane ..) fun _ => refl s
  exact answersIn_next.mpr (iteInduction (fun _ => moved.trans (receive _ n)) fun _ => moved)

theorem exec_receiveAbort (s : State) : AnswersIn (execReceiveAbort s) (Undisturbed s) := by
  refine answersIn_next.mpr ?_
  split
  · exact of_same rfl rfl rfl
  · exact withLane ..
  all_goals exact refl s

theorem exec_receiveTruncation (s : State) : AnswersIn (execReceiveTruncation s) (Undisturbed s) := by
  refine answersIn_next.mpr ?_
  split
  · exact of_same rfl rfl rfl
  · exact withLane ..
  all_goals exact refl s

theorem exec_silenceTimerExpiry (s : State) (k : Fin 16) : AnswersIn (execSilenceTimerExpiry k s) (Undisturbed s) := by
  have lost : Undisturbed s (if (s.roster.slots.get k).silence.isSome then s.fallSilent k else s) :=
    iteInduction (fun _ => fallSilent s k) fun _ => refl s
  refine answersIn_next.mpr ?_
  split
  · exact lost
  · exact lost
  · exact lost
  all_goals exact refl s

theorem exec_joinWindowExpiry (s : State) : AnswersIn (execJoinWindowExpiry s) (Undisturbed s) :=
  answersIn_next.mpr (iteInduction (fun _ => testGuard (of_same rfl rfl rfl)) fun _ => refl s)

theorem exec_cooldownExpiry (s : State) : AnswersIn (execCooldownExpiry s) (Undisturbed s) := by
  refine answersIn_next.mpr (iteInduction (fun ⟨hisolated, _⟩ => rejoined ?_ _) fun _ => refl s)
  simp [hisolated]

theorem exec_evaluationCommit (s : State) : AnswersIn (execEvaluationCommit s) (Undisturbed s) := by
  refine answersIn_next.mpr ?_
  split
  · exact refl s
  · exact of_same
  · exact of_same

/-! ### Requests -/

theorem request (s : State) (r : Request) : Undisturbed s (s.request r) := by
  unfold State.request
  split
  · exact of_same rfl rfl rfl
  · exact refl s

theorem exec_lookupService (s : State) : AnswersIn (execLookupService s) (Undisturbed s) := by
  refine answersIn_next.mpr ?_
  split
  · exact of_same rfl rfl rfl
  all_goals exact refl s

theorem take (s : State) : Undisturbed s s.take := by
  unfold State.take
  split
  · exact of_same rfl rfl rfl
  · split <;> exact of_same rfl rfl rfl

theorem exec_takeService (s : State) : AnswersIn (execTakeService s) (Undisturbed s) := by
  refine answersIn_next.mpr ?_
  split
  · exact take s
  all_goals exact refl s

/-! ### Every command that names no detector -/

/-- One of two outcomes, by a condition, neither of which disturbs the detectors. -/
theorem answersIn_ite {p : Prop} [Decidable p] (h : p → Undisturbed s t) (h' : ¬ p → Undisturbed s u) :
    AnswersIn (.next (if p then t else u)) (Undisturbed s) :=
  answersIn_next.mpr (iteInduction h h')

/-- The commands that reach no detector leave the detectors, the lock and OFFLINE. -/
theorem afterCommand {c : Instr} (hc : c.reachesDetectors = false) (s : State) : AnswersIn (exec c s) (Undisturbed s) := by
  cases c with
  | rstRelease => exact answersIn_ite (fun _ => of_same rfl rfl rfl) fun _ => refl s
  | frameDiscard => exact exec_frameDiscard s
  | unknownCommand code => exact exec_unknownCommand s code
  | setStation fingerprint period silence => exact exec_setStation ..
  | writeGroup args => exact exec_writeGroup s args
  | clearGroup group => exact exec_clearGroup s group
  | resteer group => exact exec_resteer s group
  | leave => exact exec_leave s
  | rejoin => exact exec_rejoin s
  | setEventReporting trigger timeout => exact exec_setEventReporting ..
  | readStatus => exact exec_readStatus s
  | readEvents n => exact exec_readEvents s n
  | readMap which => exact exec_readMap s which
  | readRoster => exact exec_readRoster s
  | readGroup group => exact exec_readGroup s group
  | probe group hash => exact exec_probe s group hash
  | lookupRequest word => exact answersIn_next.mpr (request ..)
  | takeRequest => exact answersIn_next.mpr (request ..)
  | lookupService => exact exec_lookupService s
  | takeService => exact exec_takeService s
  | quietGapEnd => exact answersIn_ite (fun _ => refl s) fun _ => withLane ..
  | noticeStartOffer => exact answersIn_ite (fun _ => of_same) fun _ => refl s
  | arbitrationLost => exact answersIn_ite (fun _ => withLane ..) fun _ => refl s
  | txMismatch => exact exec_txMismatch s
  | abortPatternEnd => exact exec_abortPatternEnd s
  | noticeCompleted slots => exact exec_noticeCompleted s slots
  | noticeDecision n => exact exec_noticeDecision s n
  | receiveAbort => exact exec_receiveAbort s
  | receiveTruncation => exact exec_receiveTruncation s
  | badStartMark => exact answersIn_ite (fun _ => of_same rfl rfl rfl) fun _ => refl s
  | silenceTimerExpiry k => exact exec_silenceTimerExpiry s k
  | beaconTimerExpiry => exact answersIn_ite (fun _ => of_same rfl rfl rfl) fun _ => refl s
  | joinWindowExpiry => exact exec_joinWindowExpiry s
  | cooldownExpiry => exact exec_cooldownExpiry s
  | evaluationCommit => exact exec_evaluationCommit s
  | idleTimerExpiry => exact answersIn_ite (fun _ => of_same rfl rfl rfl) fun _ => refl s
  | laneDominantLevel => exact answersIn_ite (fun _ => refl s) fun _ => withLane ..
  | arbitrationWon => exact answersIn_ite (fun _ => withLane ..) fun _ => refl s
  | receivedNoticeEnd => exact answersIn_ite (fun _ => withLane ..) fun _ => refl s
  | _ => simp [Instr.reachesDetectors] at hc

end Undisturbed

end Sys2Proof.Machine

/-! SUPPORT. The detectors' agreement with their states and with the configuration lock (R21, R22, R41, R151), and that
every step keeps it. -/

namespace Sys2Proof.Machine

/-- The lock agrees with the mode, every detector is lawful, and all are DISABLED while the lock is open. -/
structure DetectorAgreement (s : State) : Prop where
  lock : LockLaw s
  lawful : ∀ i, (s.detectors.get i).Lawful
  disabled : s.port.locked = false → ∀ i, (s.detectors.get i).state = .disabled

/-! ### The detectors that START and RESTART make (R42, R43) -/

/-- An enabled detector starts DARK and at rest, whatever its factors (R42). -/
theorem startedDetector_enabled (s : State) {d : Detector} (h : d.config.enabled = true) :
    (s.startedDetector d).Sound ∧ (s.startedDetector d).AtRest ∧ (s.startedDetector d).state = .dark := by
  unfold State.startedDetector
  simp only [h, if_true]
  refine ⟨⟨FactorSet.masked_and _ _, fun hrunning => ⟨by simp, ?_⟩, Nat.zero_le 6⟩, ⟨rfl, rfl, rfl, rfl, rfl⟩, trivial⟩
  by_contra hmasked
  simp [hmasked] at hrunning

theorem startedDetector_disabled (s : State) {d : Detector} (h : d.config.enabled = false) :
    s.startedDetector d = { Detector.reset d.losLine d.lockLine with config := d.config } := by
  simp only [State.startedDetector, h, Bool.false_eq_true, if_false]

/-- Every detector starts lawful: DISABLED, in RECOVERING where its watched factors are all good, else DARK (R42, R43). -/
theorem settledDetector_lawful (s : State) (d : Detector) : (s.settledDetector (s.startedDetector d)).Lawful := by
  unfold State.settledDetector
  cases henabled : d.config.enabled with
  | false =>
    rw [startedDetector_disabled s henabled, if_neg (by simp [Detector.reset])]
    exact (State.detector_reset_lawful d.losLine d.lockLine).configured rfl d.config
  | true =>
    obtain ⟨hsound, hrest, hdark⟩ := startedDetector_enabled s henabled
    split
    · next h =>
      obtain ⟨hawaiting, -, hqualify, hsuspect, hstability⟩ := hrest
      exact Detector.lawful_iff.mpr ⟨hsound.moved (by simp) hsound.level, iff_of_true rfl hawaiting, hqualify, hsuspect,
        hstability, h.2⟩
    · next h =>
      refine Detector.lawful_iff.mpr ⟨hsound, ?_⟩
      simp only [Detector.Fits, hdark]
      exact ⟨hrest, fun hgood => h ⟨hdark, hgood⟩⟩

namespace DetectorAgreement

variable {s t : State}

theorem of_undisturbed (hs : DetectorAgreement s) (h : Undisturbed s t) : DetectorAgreement t where
  lock := by
    have hlock := hs.lock
    simp only [LockLaw, h.locked, ne_eq, h.offline] at hlock ⊢
    exact hlock
  lawful := by rw [h.detectors]; exact hs.lawful
  disabled := by rw [h.locked, h.detectors]; exact hs.disabled

/-- A command that leaves the detectors, the lock and OFFLINE keeps the agreement. -/
theorem after (hs : DetectorAgreement s) {o : Host.Outcome State Fault Refusal} (h : AnswersIn o (Undisturbed s)) :
    AnswersIn o DetectorAgreement :=
  h.imp fun _ ⟨ho, ht⟩ => ⟨ho, hs.of_undisturbed ht⟩

theorem done (hs : DetectorAgreement s) : DetectorAgreement s.done := hs.of_undisturbed (.done s)

theorem refuse (hs : DetectorAgreement s) (status : Status) : DetectorAgreement (s.refuse status) :=
  hs.of_undisturbed (.refuse s status)

/-! ### One detector remade -/

/-- One detector is made another, lawful one, which stays DISABLED where it was. -/
theorem remake (hs : DetectorAgreement s) {i : Fin 4} {x : Detector} (hx : x.Lawful)
    (disabled : (s.detectors.get i).state = .disabled → x.state = .disabled)
    (detectors : t.detectors = s.detectors.set i x) (locked : t.port.locked = s.port.locked := by simp)
    (mode : t.roster.mode = s.roster.mode := by simp) : DetectorAgreement t where
  lock := by
    have hlock := hs.lock
    simp only [LockLaw, locked, mode] at hlock ⊢
    exact hlock
  lawful := by rw [detectors]; exact Table.forall_set hs.lawful i hx
  disabled hopen := by
    rw [locked] at hopen
    rw [detectors]
    exact Table.forall_set (p := fun d : Detector => d.state = .disabled) (hs.disabled hopen) i (disabled (hs.disabled hopen i))

/-- A detector that is enabled may be remade in any way that is lawful. -/
theorem remade (hs : DetectorAgreement s) {i : Fin 4} (enabled : (s.detectors.get i).state ≠ .disabled)
    (h : State.Remade s t i) (locked : t.port.locked = s.port.locked := by simp)
    (mode : t.roster.mode = s.roster.mode := by simp) : DetectorAgreement t := by
  obtain ⟨x, hx, hdetectors⟩ := h
  exact hs.remake hx (fun hdisabled => absurd hdisabled enabled) hdetectors locked mode

theorem setFactor (hs : DetectorAgreement s) {i : Fin 4} {f : FactorSet} (hwatched : (s.detectors.get i).watches f = true)
    (bad : Bool) : DetectorAgreement (s.setFactor i f bad) :=
  hs.remade ((Detector.watches_iff _ f).mp hwatched).1 (State.setFactor_remade (hs.lawful i) hwatched bad)

/-- A line's level, or the heartbeat monitor, changes, and then a factor of the same line (R23 to R25). -/
theorem setDetector_setFactor (hs : DetectorAgreement s) {i : Fin 4} {x : Detector} (hx : x.Lawful) {f : FactorSet}
    (hwatched : x.watches f = true) (state : x.state = (s.detectors.get i).state := by rfl) (bad : Bool) :
    DetectorAgreement ((s.setDetector i x).setFactor i f bad) :=
  (hs.remake (t := s.setDetector i x) hx (fun h => state.trans h) rfl).setFactor (by simpa using hwatched) bad

/-! ### The starts -/

theorem fullReset (code : Fin 16) (los lock : Fin 4 → Bool) (mcs held : Bool) (pending : List Instr) (pins : List PortPin)
    (drawn : Nat) : DetectorAgreement (.fullReset code los lock mcs held pending pins drawn) where
  lock := rfl
  lawful i := by
    simp only [State.fullReset, Table.get_tabulate]
    exact State.detector_reset_lawful ..
  disabled _ i := by
    simp only [State.fullReset, Table.get_tabulate]
    rfl

/-- START and RESTART make every detector anew, the lock closed and the mode JOINING (R42, R85, R151). -/
theorem of_startingValues (detectors : t.detectors = s.startingValues.detectors) (locked : t.port.locked = true)
    (mode : t.roster.mode = .joining) : DetectorAgreement t where
  lock := by simp [LockLaw, locked, mode]
  lawful i := by
    rw [detectors]
    simp only [State.startingValues, Table.get_tabulate]
    exact settledDetector_lawful ..
  disabled hopen := by simp [locked] at hopen

theorem started (s : State) : DetectorAgreement s.started := of_startingValues (s := s) rfl rfl rfl

theorem restartTransmitter_keeps (s : State) :
    s.restartTransmitter.detectors = s.detectors ∧ s.restartTransmitter.port = s.port := by
  unfold State.restartTransmitter
  split <;> exact ⟨rfl, rfl⟩

/-- The entry to JOINING leaves the detectors and the port (R85). -/
theorem joined_keeps (s : State) (c : ModeCause) :
    (s.startSeeking.enterJoining.changeMode .joining c).detectors = s.detectors ∧
    (s.startSeeking.enterJoining.changeMode .joining c).port = s.port ∧
    (s.startSeeking.enterJoining.changeMode .joining c).roster.mode = .joining :=
  ⟨rfl, rfl, rfl⟩

/-- RESTART finds the lock closed, as it is outside OFFLINE (R90, R151). -/
theorem restarted (hs : DetectorAgreement s) (hmode : s.roster.mode ≠ .offline) : DetectorAgreement s.restarted := by
  unfold State.restarted
  obtain ⟨hdetectors, hport⟩ := restartTransmitter_keeps s.startingValues
  obtain ⟨hdetectors', hport', hjoining⟩ := joined_keeps s.startingValues.restartTransmitter .reset
  refine of_startingValues (hdetectors'.trans hdetectors) ?_ hjoining
  calc _ = s.port.locked := by rw [hport', hport]; rfl
    _ = decide (s.roster.mode ≠ .offline) := hs.lock
    _ = true := decide_eq_true hmode

/-! ### The commands that reach a detector -/

theorem exec_start (hs : DetectorAgreement s) : AnswersIn (execStart s) DetectorAgreement :=
  answersIn_portCommand hs (iteInduction (fun _ => (started s).done) fun _ => hs.refuse _)

theorem exec_restart (hs : DetectorAgreement s) : AnswersIn (execRestart s) DetectorAgreement :=
  answersIn_portCommand hs (iteInduction (fun _ => hs.refuse _) fun hmode => (hs.restarted hmode).done)

/-- SET UPLINK configures detectors that are DISABLED, the lock being open (R22, R153). -/
theorem exec_setUplink (hs : DetectorAgreement s) (args : UplinkArgs) : AnswersIn (execSetUplink args s) DetectorAgreement := by
  unfold execSetUplink configure
  refine answersIn_portCommand hs ?_
  split
  · exact hs.refuse _
  · next hlocked =>
    split
    · next i c _ =>
      have hdisabled := hs.disabled (by simpa using hlocked) i
      exact (hs.remake (t := s.setDetector i _) ((hs.lawful i).configured hdisabled c) (fun h => h) rfl).done
    · exact hs.refuse _

theorem exec_drain (hs : DetectorAgreement s) (index : Byte) : AnswersIn (execDrain index s) DetectorAgreement := by
  refine answersIn_detectorCommand hs (hs.refuse ·) fun i => ?_
  have drained (henabled : (s.detectors.get i).state ≠ .disabled) : DetectorAgreement (s.drain i).done :=
    (hs.remade henabled ⟨_, (hs.lawful i).drained, State.transition_detectors ..⟩).done
  split
  · exact hs.refuse _
  · exact hs.done
  all_goals
    next h => exact drained (by simp [h])

/-- UNDRAIN leaves a lawful detector, DARK or in RECOVERING by its factors (R37). -/
theorem undrain (hs : DetectorAgreement s) {i : Fin 4} (hstate : (s.detectors.get i).state = .drained) :
    DetectorAgreement (s.undrain i) := by
  obtain ⟨hsound, hfits⟩ := Detector.lawful_iff.mp (hs.lawful i)
  have hrest := hfits.of_drained hstate
  have henabled : (s.detectors.get i).state ≠ .disabled := by simp [hstate]
  unfold State.undrain
  dsimp only
  split
  · next hgood =>
    exact hs.remade henabled ⟨_, hsound.recovering hrest hgood s.ticks, State.transition_detectors ..⟩
  · next hfailing => exact hs.remade henabled ⟨_, hsound.dark hrest hfailing, State.transition_detectors ..⟩

theorem exec_undrain (hs : DetectorAgreement s) (index : Byte) : AnswersIn (execUndrain index s) DetectorAgreement := by
  refine answersIn_detectorCommand hs (hs.refuse ·) fun i => ?_
  split
  · next h => exact (hs.undrain h).done
  all_goals exact hs.refuse _

theorem enterServing (hs : DetectorAgreement s) {i : Fin 4} (hstate : (s.detectors.get i).state = .recovering)
    (way : ReturnWay) : DetectorAgreement (s.enterServing i way) :=
  hs.remade (by simp [hstate]) ⟨_, (hs.lawful i).served hstate _, State.transition_detectors ..⟩

theorem exec_release (hs : DetectorAgreement s) (index : Byte) : AnswersIn (execRelease index s) DetectorAgreement := by
  refine answersIn_detectorCommand hs (hs.refuse ·) fun i => ?_
  dsimp only
  split
  · next hstate _ => exact (hs.enterServing hstate _).done
  all_goals exact hs.refuse _

/-! ### Lines and detector timers -/

theorem exec_losChange (hs : DetectorAgreement s) (i : Fin 4) (high : Bool) :
    AnswersIn (execLosChange i high s) DetectorAgreement := by
  have hlawful : { s.detectors.get i with losLine := high }.Lawful := hs.lawful i
  exact answersIn_next.mpr (iteInduction (fun hwatched => hs.setDetector_setFactor hlawful hwatched rfl _) fun _ =>
    hs.remake hlawful (fun h => h) rfl)

theorem exec_lockChange (hs : DetectorAgreement s) (i : Fin 4) (high : Bool) :
    AnswersIn (execLockChange i high s) DetectorAgreement := by
  have hlawful : { s.detectors.get i with lockLine := high }.Lawful := hs.lawful i
  exact answersIn_next.mpr (iteInduction (fun hwatched => hs.setDetector_setFactor hlawful hwatched rfl _) fun _ =>
    hs.remake hlawful (fun h => h) rfl)

theorem exec_heartbeatPulse (hs : DetectorAgreement s) (i : Fin 4) : AnswersIn (execHeartbeatPulse i s) DetectorAgreement := by
  refine answersIn_next.mpr (iteInduction (fun hwatched => ?_) fun _ => hs)
  have hlawful := (hs.lawful i).pulsed hwatched (some s.ticks)
    (s.after ((s.detectors.get i).config.hbMax * Config.heartbeatUnitTicks))
  split
  · exact hs.setDetector_setFactor hlawful hwatched rfl _
  · exact hs.remake hlawful (fun h => h) rfl

/-- The watchdog runs where HB is watched alone (R25, R26). -/
theorem exec_heartbeatWatchdogExpiry (hs : DetectorAgreement s) (i : Fin 4) :
    AnswersIn (execHeartbeatWatchdogExpiry i s) DetectorAgreement := by
  refine answersIn_next.mpr (iteInduction (fun hrunning => ?_) fun _ => hs)
  have hwatched := (Detector.lawful_iff.mp (hs.lawful i)).1.watchdog hrunning
  exact hs.setDetector_setFactor (hs.lawful i).watchdog_stopped ((Detector.watches_iff _ _).mpr hwatched) rfl _

/-- Some watched factor fails throughout SUSPECT, so the qualify expiry finds one (R29). -/
theorem exec_qualifyTimerExpiry (hs : DetectorAgreement s) (i : Fin 4) :
    AnswersIn (execQualifyTimerExpiry i s) DetectorAgreement := by
  refine answersIn_next.mpr (iteInduction (fun ⟨hstate, _⟩ => ?_) fun _ => hs)
  obtain ⟨hsound, hfits⟩ := Detector.lawful_iff.mp (hs.lawful i)
  obtain ⟨-, -, -, -, hfailing⟩ := hfits.of_suspect hstate
  exact hs.remade (by simp [hstate])
    ⟨_, Detector.darkened hsound hfits (by rw [hstate]; rfl) hfailing, State.enterDark_detectors hfailing⟩

theorem exec_restoreHoldExpiry (hs : DetectorAgreement s) (i : Fin 4) :
    AnswersIn (execRestoreHoldExpiry i s) DetectorAgreement := by
  refine answersIn_next.mpr (iteInduction (fun ⟨hstate, _, _⟩ => ?_) fun _ => hs)
  split
  · exact hs.enterServing hstate _
  · exact hs.remade (by simp [hstate]) ⟨_, (hs.lawful i).awaited hstate, rfl⟩

theorem exec_stabilityTimerExpiry (hs : DetectorAgreement s) (i : Fin 4) :
    AnswersIn (execStabilityTimerExpiry i s) DetectorAgreement :=
  answersIn_next.mpr (iteInduction (fun _ => hs.remake (hs.lawful i).settled (fun h => h) rfl) fun _ => hs)

/-! ### Every command and every step -/

/-- Every command keeps the agreement. -/
theorem afterCommand (c : Instr) (hs : DetectorAgreement s) : AnswersIn (exec c s) DetectorAgreement := by
  cases c with
  | fullReset straps => exact answersIn_next.mpr (fullReset ..)
  | setUplink args => exact hs.exec_setUplink args
  | start => exact hs.exec_start
  | restart => exact hs.exec_restart
  | drain index => exact hs.exec_drain index
  | undrain index => exact hs.exec_undrain index
  | release index => exact hs.exec_release index
  | losChange i high => exact hs.exec_losChange i high
  | lockChange i high => exact hs.exec_lockChange i high
  | heartbeatPulse i => exact hs.exec_heartbeatPulse i
  | heartbeatWatchdogExpiry i => exact hs.exec_heartbeatWatchdogExpiry i
  | qualifyTimerExpiry i => exact hs.exec_qualifyTimerExpiry i
  | restoreHoldExpiry i => exact hs.exec_restoreHoldExpiry i
  | stabilityTimerExpiry i => exact hs.exec_stabilityTimerExpiry i
  | _ => exact hs.after (Undisturbed.afterCommand rfl s)

theorem tick (hs : DetectorAgreement s) : DetectorAgreement s.tick := by
  unfold State.tick
  split
  · exact hs
  · exact hs.of_undisturbed (.of_same rfl rfl rfl)

theorem afterStep (hs : DetectorAgreement s) : AnswersIn (step s) DetectorAgreement :=
  step_keeps (fun _ _ _ _ h => h.of_undisturbed (.of_same rfl rfl rfl)) (fun _ _ h => h.of_undisturbed (.of_same rfl rfl rfl))
    (fun _ h => h.tick) (fun c _ h => h.afterCommand c) hs

end DetectorAgreement

end Sys2Proof.Machine

/-! PROOF. What every step keeps of a detector, and the condition lines, the factors, the detector timers and the operator's
commands on a detector. -/

namespace Sys2Proof.ConditionDetectors

open Sys2Proof.Machine

/-! ### What every step keeps -/

/-- Settles O58: the lock, the lawful detectors and their rest while the lock is open are kept together by every command, by
an edge that moves the frame and by a tick. -/
theorem stepKeepsDetectorsLawful : Obligations.StepKeepsDetectorsLawful := by
  unfold Obligations.StepKeepsDetectorsLawful
  intro s s' hstep ⟨hlock, hlawful, hdisabled⟩
  obtain ⟨lock, lawful, disabled⟩ := (DetectorAgreement.mk hlock hlawful hdisabled).afterStep.of_eq_next hstep
  exact ⟨lock, lawful, disabled⟩

/-! ### Factor events -/

/-- Settles O29: a factor that grows the failing set is a failure, taken by the rule of the detector's state. -/
theorem factorFailureIsTakenByState : Obligations.FactorFailureIsTakenByState := by
  unfold Obligations.FactorFailureIsTakenByState
  intro s i f hf
  dsimp only
  have hnonzero := FactorSet.or_ne_zero hf (s.detectors.get i).failing
  refine ⟨fun hhas => ?_, fun hhas => ?_⟩
  · refine State.setFactor_of_same (Decidable.byContradiction fun h => ?_)
    simp [FactorSet.or_ne_self_iff.mp h] at hhas
  rw [State.setFactor_of_failure (FactorSet.or_ne_self_iff.mpr hhas)]
  refine ⟨fun hstate htq => ?_, fun q hq hstate htq => ?_, fun hstate => ?_, fun hstate => ?_, fun hstate => ?_⟩
  · rw [State.factorFailure_of_unqualified (by simpa using hstate) (by simpa using htq),
      State.enterDark_eq (by simp [hstate, DetState.image]) (by simpa using hnonzero)]
    rfl
  · obtain ⟨hqualified, hticks⟩ := qualifyTime_ticks q hq
    rw [State.factorFailure_of_serving (by simpa using hstate) (by simpa [htq] using hqualified)]
    simp [State.setDetector, State.after, State.now, htq, hticks]
  · rw [State.factorFailure_of_suspect (by simpa using hstate)]
    simp [State.setDetector]
  · rw [State.factorFailure_of_recovering (by simpa using hstate), State.flap_eq (by simpa using hstate)]
    simp [State.setDetector, State.ownSubject, State.ownUplink, raisedLevel]
  · rw [State.factorFailure_of_unmoved (by simpa using hstate)]
    rfl

/-- Settles O30: a factor that shrinks the failing set is all good where the set is then empty, taken by the rule of the
detector's state. -/
theorem allGoodIsTakenByState : Obligations.AllGoodIsTakenByState := by
  unfold Obligations.AllGoodIsTakenByState
  intro s i f hf
  dsimp only
  refine ⟨fun hhas => ?_, fun hhas => ?_⟩
  · refine State.setFactor_of_same (Decidable.byContradiction fun h => ?_)
    simp [(FactorSet.and_not_ne_self_iff hf).mp h] at hhas
  rw [State.setFactor_of_good ((FactorSet.and_not_ne_self_iff hf).mpr hhas)]
  dsimp only
  refine ⟨fun hunmoved => ?_, fun hgood hstate r hr q hq htq => ?_, fun hgood hstate => ?_⟩
  · split
    · next hgood =>
      rw [State.allGood_of_unmoved (by simpa [hgood] using hunmoved)]
      rfl
    · rfl
  · rw [if_pos hgood, State.allGood_of_suspect (by simpa using hstate) (by simpa using hr)]
    simp [State.setDetector, State.ownSubject, State.ownUplink, State.glitchDuration, State.now, htq, glitch_bound q hq]
  · rw [if_pos hgood, State.allGood_of_dark (by simpa using hstate)]
    simp [State.setDetector]

/-! ### Condition lines -/

/-- Settles O31: the line's level is kept, and a watched line moves its factor. -/
theorem linesMoveTheirFactors : Obligations.LinesMoveTheirFactors := by
  unfold Obligations.LinesMoveTheirFactors
  intro s i high
  simp only [← Detector.watches_iff]
  exact ⟨rfl, rfl⟩

/-! ### Heartbeats -/

/-- Settles O32: the pulse by its watched line and the verdict on its interval; the watchdog's expiry by its definition. -/
theorem heartbeatIsJudgedByItsWindow : Obligations.HeartbeatIsJudgedByItsWindow := by
  unfold Obligations.HeartbeatIsJudgedByItsWindow
  intro s i
  dsimp only
  refine ⟨fun hunwatched => ?_, fun henabled hmask => ?_, fun hrunning => ?_⟩
  · refine State.heartbeatPulse_of_unwatched (Bool.eq_false_iff.mpr fun h => ?_)
    obtain ⟨henabled, hmask⟩ := (Detector.watches_iff _ _).mp h
    obtain hdisabled | hmasked := hunwatched
    · exact henabled hdisabled
    · simp [hmask] at hmasked
  · obtain ⟨first, later⟩ := State.heartbeatPulse_of_watched ((Detector.watches_iff _ _).mpr ⟨henabled, hmask⟩)
    refine ⟨fun hnone => first (by simp [Detector.pulseVerdict, hnone]), fun last hlast => ⟨fun hmin hmax => ?_, fun hout => ?_⟩⟩
    · refine later false ?_
      rw [Detector.pulseVerdict_of_previous hlast]
      simp [hmin, hmax]
    · refine later true ?_
      rw [Detector.pulseVerdict_of_previous hlast, decide_eq_false (by omega)]
      rfl
  · simp only [exec, execHeartbeatWatchdogExpiry, hrunning, if_true]
    rfl

/-! ### The detector's timers -/

/-- Settles O33: the qualify expiry is the entry to DARK from SUSPECT. -/
theorem qualifyExpiryEntersDark : Obligations.QualifyExpiryEntersDark := by
  unfold Obligations.QualifyExpiryEntersDark
  intro s i hstate hrunning hfailing
  rw [← State.enterDark_eq (by simp [hstate, DetState.image]) hfailing]
  simp only [exec, execQualifyTimerExpiry, hstate, hrunning, and_self, if_true]

/-- Settles O34: the hold's expiry by the clear mode, and the stability timer's. -/
theorem holdAndStabilityExpiries : Obligations.HoldAndStabilityExpiries := by
  unfold Obligations.HoldAndStabilityExpiries
  intro s i
  dsimp only
  refine ⟨fun hstate hawaiting hrunning => ⟨fun hauto => ?_, fun hheld => ?_⟩, fun hrunning => ?_⟩
  · rw [← State.enterServing_eq hstate]
    simp only [exec, execRestoreHoldExpiry, hstate, hawaiting, hrunning, hauto, and_self, if_true]
  · simp only [exec, execRestoreHoldExpiry, hstate, hawaiting, hrunning, hheld, and_self, if_true]
    rfl
  · simp only [exec, execStabilityTimerExpiry, hrunning, if_true]
    rfl

/-! ### The operator's commands -/

/-- Settles O15: both commands by the detector's state, UNDRAIN from DRAINED by its failing factors too. -/
theorem drainAndUndrainByDetectorState : Obligations.DrainAndUndrainByDetectorState := by
  unfold Obligations.DrainAndUndrainByDetectorState
  intro s i hrst hmode
  simp only [exec, execDrain, execUndrain, detectorCommand_taken hrst hmode]
  refine ⟨fun hstate => ?_, fun hstate => ?_, fun hdisabled hdrained => ?_, fun hdrained => ?_, fun hstate hgood => ?_,
    fun hstate hfailing => ?_⟩
  · rw [hstate]
    rfl
  · rw [hstate]
    rfl
  · rw [← State.drain_eq (by revert hdisabled hdrained; cases (s.detectors.get i).state <;> decide)]
    split
    · next h => exact absurd h hdisabled
    · next h => exact absurd h hdrained
    all_goals rfl
  · split
    · next h => exact absurd h hdrained
    all_goals rfl
  · rw [← State.undrain_eq_of_good hstate hgood, hstate]
    rfl
  · rw [← State.undrain_eq_of_failing hstate hfailing, hstate]
    rfl

/-- Settles O16: RELEASE by the clear mode, the detector's state and awaiting release. -/
theorem releaseReturnsAnAwaitingUplink : Obligations.ReleaseReturnsAnAwaitingUplink := by
  unfold Obligations.ReleaseReturnsAnAwaitingUplink
  intro s i hrst hmode
  simp only [exec, execRelease, detectorCommand_taken hrst hmode]
  refine ⟨fun hnot => ?_, fun hheld hstate => ⟨fun hawaiting => ?_, fun hawaiting => ?_⟩⟩
  · split
    · next hheld hstate _ => simp [hheld, hstate] at hnot
    · next hheld hstate _ => simp [hheld, hstate] at hnot
    · rfl
  · simp only [hheld, hstate, hawaiting]
    rfl
  · rw [← State.enterServing_eq hstate]
    simp only [hheld, hstate, hawaiting]
    rfl

end Sys2Proof.ConditionDetectors

/-! SUPPORT. Records pushed one after another, and a run over indices of which each rewrites one cell of a table and pushes at
most one record. -/

namespace Sys2Proof.Machine.State

/-! ### Records pushed in one step -/

/-- The records pushed are stamped by the clock and join the queue as it is: nothing else of the state is read. -/
theorem pushedAll_congr {s t : State} (hticks : t.ticks = s.ticks) (hevents : t.events = s.events) (l : List (Byte × Detail)) :
    pushedAll t l = pushedAll s l := by
  simp only [pushedAll, now, hticks, hevents]

theorem pushedAll_append {s t : State} {a : List (Byte × Detail)} (hticks : t.ticks = s.ticks)
    (hevents : t.events = pushedAll s a) (b : List (Byte × Detail)) : pushedAll s (a ++ b) = pushedAll t b := by
  simp only [pushedAll, now, hticks, hevents, List.foldl_append]

/-! ### A run over indices -/

section IndexRun

variable {n : Nat} {step : State → Fin n → State} {l : List (Fin n)}

/-- Where each index writes its own cell, from what no other index changes, each cell listed is written once. -/
theorem foldl_get {α : Type} {table : State → Table α n} {cell : State → Fin n → α}
    (writes : ∀ s i, table (step s i) = (table s).set i (cell s i))
    (others : ∀ s i j, i ≠ j → cell (step s i) j = cell s j) (hl : l.Nodup) (s : State) (j : Fin n) :
    (table (l.foldl step s)).get j = if j ∈ l then cell s j else (table s).get j := by
  induction l generalizing s with
  | nil => simp
  | cons i l ih =>
    obtain ⟨hi, hl⟩ := List.nodup_cons.mp hl
    rw [List.foldl_cons, ih hl, writes]
    by_cases hj : i = j
    · subst hj
      simp [hi]
    · simp [Ne.symm hj, others s i j hj, Table.get_set_of_ne hj]

/-- Where each index pushes its record or none, from what no other index changes, the records stand in the order of the
indexes. -/
theorem foldl_events {pushes : State → Fin n → Bool} {record : State → Fin n → Byte × Detail}
    (events : ∀ s i, (step s i).events = if pushes s i then pushedAll s [record s i] else s.events)
    (ticks : ∀ s i, (step s i).ticks = s.ticks)
    (others : ∀ s i j, i ≠ j → pushes (step s i) j = pushes s j ∧ record (step s i) j = record s j)
    (hl : l.Nodup) (s : State) :
    (l.foldl step s).events = pushedAll s ((l.filter (pushes s)).map (record s)) := by
  induction l generalizing s with
  | nil => rfl
  | cons i l ih =>
    obtain ⟨hi, hl⟩ := List.nodup_cons.mp hl
    have hne : ∀ j ∈ l, i ≠ j := fun j hj h => hi (h ▸ hj)
    have hlater : (l.filter (pushes (step s i))).map (record (step s i)) = (l.filter (pushes s)).map (record s) := by
      rw [List.filter_congr fun j hj => (others s i j (hne j hj)).1]
      exact List.map_congr_left fun j hj => (others s i j (hne j (List.mem_of_mem_filter hj))).2
    rw [List.foldl_cons, ih hl, hlater]
    by_cases hp : pushes s i = true
    · rw [List.filter_cons_of_pos hp, List.map_cons, ← List.singleton_append]
      exact (pushedAll_append (ticks s i) (by rw [events, if_pos hp]) _).symm
    · rw [List.filter_cons_of_neg hp]
      exact pushedAll_congr (ticks s i) (by rw [events, if_neg hp]) _

end IndexRun

end Sys2Proof.Machine.State

/-! SUPPORT. The end of a won notice: the hears-me bookkeeping (R71), the settlement of the carried entries (R72, R73, R79), and
what follows them (R53, R86, R89). -/

namespace Sys2Proof.Machine.State

variable {s t : State}

/-! ### What the roster's slots decide -/

theorem hearable_iff (s : State) (k : Fin 16) :
    s.hearable k = true ↔ (s.roster.slots.get k).state = .joining ∨ (s.roster.slots.get k).state = .present := by
  unfold hearable
  cases (s.roster.slots.get k).state <;> simp

theorem hearable_congr {k : Fin 16} (h : t.roster.slots.get k = s.roster.slots.get k) : t.hearable k = s.hearable k := by
  simp only [hearable, h]

theorem expectedHearers_congr (hslots : t.roster.slots = s.roster.slots) (hcode : t.station.code = s.station.code) :
    t.expectedHearers = s.expectedHearers := by
  have hheard (k : Fin 16) : t.hearable k = s.hearable k := hearable_congr (by rw [hslots])
  simp only [expectedHearers, hheard, hslots, hcode]

theorem joinGuard_congr (hslots : t.roster.slots = s.roster.slots) : t.joinGuard = s.joinGuard := by
  have hheard (k : Fin 16) : t.hearable k = s.hearable k := hearable_congr (by rw [hslots])
  simp only [joinGuard, hheard, hslots]

/-! ### The bookkeeping of one peer (R71) -/

/-- The notice with tally set `tally` is the peer's eighth miss in a row (R71). -/
def turnsDeaf (s : State) (tally : StationSet) (k : Fin 16) : Bool :=
  s.hearable k && !tally.has k && (s.roster.slots.get k).misses + 1 == 8

theorem newlyDeaf_eq (s : State) (tally : StationSet) : newlyDeaf s tally = codes.filter (s.turnsDeaf tally) := rfl

theorem turnsDeaf_congr {k : Fin 16} (h : t.roster.slots.get k = s.roster.slots.get k) (tally : StationSet) :
    t.turnsDeaf tally k = s.turnsDeaf tally k := by
  simp only [turnsDeaf, hearable_congr h, h]

theorem bookkept_congr {k : Fin 16} (h : t.roster.slots.get k = s.roster.slots.get k) (join : Bool) (tally : StationSet) :
    bookkept t join tally k = bookkept s join tally k := by
  simp only [bookkept, h]

/-- The bookkeeping of a peer writes its slot, and pushes PEER_DEAF at its eighth miss. -/
theorem bookkeep_eq (n : Notice) (tally : StationSet) (s : State) (k : Fin 16) :
    bookkeep n tally s k =
      let booked := s.setSlot k (bookkept s n.join tally k)
      if s.turnsDeaf tally k then booked.push (idByte k) (.peerDeaf n.kind) else booked := by
  unfold bookkeep bookkept turnsDeaf
  dsimp only
  by_cases hheard : s.hearable k = true
  · rw [if_pos hheard, if_pos ((hearable_iff s k).mp hheard)]
    by_cases htally : tally.has k = true
    · simp [htally]
    · by_cases hmiss : (s.roster.slots.get k).misses = 7
      · simp [hheard, htally, hmiss, Config.faultLimit]
      · have hmiss' : ((s.roster.slots.get k).misses == 7) = false := beq_eq_false_iff_ne.mpr hmiss
        simp [htally, hmiss, hmiss', Config.faultLimit]
  · rw [if_neg hheard, if_neg fun h => hheard ((hearable_iff s k).mpr h)]
    simp [hheard, setSlot]

theorem bookkeep_slots (n : Notice) (tally : StationSet) (s : State) (k : Fin 16) :
    (bookkeep n tally s k).roster.slots = s.roster.slots.set k (bookkept s n.join tally k) := by
  rw [bookkeep_eq]
  dsimp only
  split <;> rfl

theorem bookkeep_events (n : Notice) (tally : StationSet) (s : State) (k : Fin 16) :
    (bookkeep n tally s k).events =
      if s.turnsDeaf tally k then pushedAll s [(idByte k, .peerDeaf n.kind)] else s.events := by
  rw [bookkeep_eq]
  dsimp only
  split <;> rfl

theorem bookkeep_slots_of_ne (n : Notice) (tally : StationSet) (s : State) {k j : Fin 16} (h : k ≠ j) :
    (bookkeep n tally s k).roster.slots.get j = s.roster.slots.get j := by
  rw [bookkeep_slots, Table.get_set_of_ne h]

/-! ### The bookkeeping of every peer -/

/-- The roster after the bookkeeping of a notice that read the slots `tally`, or was aborted (R70, R71). -/
def booked (s : State) (n : Notice) : Option StationSet → State
  | some tally => codes.foldl (bookkeep n tally) s
  | none => s

theorem booked_some (s : State) (n : Notice) (tally : StationSet) :
    s.booked n (some tally) = codes.foldl (bookkeep n tally) s := rfl

theorem codes_nodup : codes.Nodup := List.nodup_ofFn.mpr fun _ _ h => h

theorem booked_frame (s : State) (n : Notice) (tally : Option StationSet) :
    ∃ slots ev, s.booked n tally = { s with roster := { s.roster with slots := slots }, events := ev } := by
  cases tally with
  | none => exact ⟨_, _, rfl⟩
  | some tally =>
    rw [booked_some]
    generalize codes = l
    induction l generalizing s with
    | nil => exact ⟨_, _, rfl⟩
    | cons k l ih =>
      obtain ⟨x, y, h⟩ := ih (bookkeep n tally s k)
      refine ⟨x, y, ?_⟩
      rw [List.foldl_cons, h, bookkeep_eq]
      dsimp only
      split <;> rfl

theorem booked_slots (s : State) (n : Notice) (tally : StationSet) (k : Fin 16) :
    (s.booked n (some tally)).roster.slots.get k = bookkept s n.join tally k := by
  have hget := foldl_get (table := fun s => s.roster.slots) (cell := fun s => bookkept s n.join tally)
    (bookkeep_slots n tally) (fun s i j h => bookkept_congr (bookkeep_slots_of_ne n tally s h) ..) codes_nodup s k
  rw [if_pos (mem_codes k)] at hget
  rw [booked_some]
  exact hget

theorem booked_events (s : State) (n : Notice) (tally : StationSet) :
    (s.booked n (some tally)).events =
      pushedAll s ((newlyDeaf s tally).map fun k => (idByte k, .peerDeaf n.kind)) := by
  rw [booked_some, newlyDeaf_eq]
  have hticks (s : State) (k : Fin 16) : (bookkeep n tally s k).ticks = s.ticks := by
    obtain ⟨_, _, h⟩ := bookkeep_frame n tally s k
    rw [h]
  exact foldl_events (step := bookkeep n tally) (l := codes) (pushes := fun s => s.turnsDeaf tally)
    (record := fun _ k => (idByte k, .peerDeaf n.kind)) (bookkeep_events n tally) hticks
    (fun s i j h => ⟨turnsDeaf_congr (bookkeep_slots_of_ne n tally s h) tally, rfl⟩) codes_nodup s

/-! ### The settlement of one entry (R72, R73, R79) -/

/-- The entry's own record is still at its sent epoch (R72). -/
def counted (s : State) (i : Fin 4) : Bool := decide ((s.ownEntry i).epoch = (s.announcer.entries.get i).sentEpoch)

/-- The entry is at its fourth send, and some expected hearer has not heard it (R73, R79). -/
def givesUp (s hearers : State) (tally : StationSet) (i : Fin 4) : Bool :=
  decide (missingAt s hearers tally i ≠ 0#16) && decide (4 ≤ (s.announcer.entries.get i).sends + 1)

/-- NOTICE_UNCONFIRMED for an entry given up (R79). -/
def unconfirmedRecord (s hearers : State) (tally : StationSet) (i : Fin 4) : Byte × Detail :=
  (s.ownSubject i, .noticeUnconfirmed (missingAt s hearers tally i) (s.ownEntry i).state (s.ownEntry i).epoch)

/-- What the end of a notice makes of the entry, its own record having changed or not (R72, R73). -/
def entrySettled (s hearers : State) (tally : StationSet) (i : Fin 4) : AnnounceEntry :=
  if s.counted i then settled (s.announcer.entries.get i) tally (missingAt s hearers tally i) else s.announcer.entries.get i

/-- What the settlement of entry `i` reads stands in `t`, with its roster in `hearers'`, as in `s`, with its roster in
`hearers`. -/
structure SameReading (s t hearers hearers' : State) (i : Fin 4) : Prop where
  entry : t.announcer.entries.get i = s.announcer.entries.get i
  map : t.map = s.map
  code : t.station.code = s.station.code
  slots : hearers'.roster.slots = hearers.roster.slots
  hearerCode : hearers'.station.code = hearers.station.code

namespace SameReading

variable {hearers hearers' : State} {i : Fin 4} (h : SameReading s t hearers hearers' i)
include h

theorem ownEntry : t.ownEntry i = s.ownEntry i := by
  simp only [State.ownEntry, ownUplink, h.map, h.code]

theorem missingAt (tally : StationSet) : missingAt t hearers' tally i = Machine.missingAt s hearers tally i := by
  simp only [Machine.missingAt, h.entry, expectedHearers_congr h.slots h.hearerCode]

theorem counted : t.counted i = s.counted i := by
  simp only [State.counted, h.ownEntry, h.entry]

theorem givesUp (tally : StationSet) : t.givesUp hearers' tally i = s.givesUp hearers tally i := by
  simp only [State.givesUp, h.missingAt, h.entry]

theorem unconfirmedRecord (tally : StationSet) :
    t.unconfirmedRecord hearers' tally i = s.unconfirmedRecord hearers tally i := by
  simp only [State.unconfirmedRecord, ownSubject, ownUplink, h.missingAt, h.ownEntry, h.code]

theorem entrySettled (tally : StationSet) : t.entrySettled hearers' tally i = s.entrySettled hearers tally i := by
  simp only [State.entrySettled, h.missingAt, h.counted, h.entry]

end SameReading

/-- The settlement of an entry writes it, and pushes NOTICE_UNCONFIRMED where it is given up. -/
theorem settleEntry_eq (tally : StationSet) (s : State) (i : Fin 4) :
    settleEntry tally s i =
      let written := s.setAnnounce i (s.entrySettled s tally i)
      let record := s.unconfirmedRecord s tally i
      if s.counted i && s.givesUp s tally i then written.push record.1 record.2 else written := by
  unfold settleEntry entrySettled counted givesUp unconfirmedRecord settled
  dsimp only
  by_cases hcounted : (s.ownEntry i).epoch = (s.announcer.entries.get i).sentEpoch
  · rw [if_pos hcounted]
    have hmissing : s.expectedHearers &&& ~~~((s.announcer.entries.get i).heardBy ||| tally) = missingAt s s tally i := rfl
    rw [hmissing]
    by_cases hnone : missingAt s s tally i = 0#16
    · simp [hcounted, hnone]
    · by_cases hlast : 4 ≤ (s.announcer.entries.get i).sends + 1
      · simp [hcounted, hnone, hlast, Config.sendLimit]
      · simp [hcounted, hnone, hlast, Config.sendLimit]
  · simp [hcounted, setAnnounce]

theorem settleEntry_entries (tally : StationSet) (s : State) (i : Fin 4) :
    (settleEntry tally s i).announcer.entries = s.announcer.entries.set i (s.entrySettled s tally i) := by
  rw [settleEntry_eq]
  dsimp only
  split <;> rfl

theorem settleEntry_events (tally : StationSet) (s : State) (i : Fin 4) :
    (settleEntry tally s i).events =
      if s.counted i && s.givesUp s tally i then pushedAll s [s.unconfirmedRecord s tally i] else s.events := by
  rw [settleEntry_eq]
  dsimp only
  split <;> rfl

/-- The settlement of one entry leaves what the settlement of another reads. -/
theorem settleEntry_sameReading (tally : StationSet) (s : State) {i j : Fin 4} (h : i ≠ j) :
    SameReading s (settleEntry tally s i) s (settleEntry tally s i) j := by
  have hentry : (settleEntry tally s i).announcer.entries.get j = s.announcer.entries.get j := by
    rw [settleEntry_entries, Table.get_set_of_ne h]
  obtain ⟨_, _, hframe⟩ := settleEntry_frame tally s i
  exact ⟨hentry, by rw [hframe], by rw [hframe], by rw [hframe], by rw [hframe]⟩

/-! ### The settlement of every entry carried -/

theorem settleAll_entries (tally : StationSet) (s : State) {l : List (Fin 4)} (hl : l.Nodup) (i : Fin 4) :
    (l.foldl (settleEntry tally) s).announcer.entries.get i =
      if i ∈ l then s.entrySettled s tally i else s.announcer.entries.get i :=
  foldl_get (table := fun s => s.announcer.entries) (settleEntry_entries tally)
    (fun s _ _ h => (settleEntry_sameReading tally s h).entrySettled tally) hl s i

theorem settleAll_events (tally : StationSet) (s : State) {l : List (Fin 4)} (hl : l.Nodup) :
    (l.foldl (settleEntry tally) s).events =
      pushedAll s ((l.filter fun i => s.counted i && s.givesUp s tally i).map (s.unconfirmedRecord s tally)) := by
  refine foldl_events (settleEntry_events tally) (fun s i => ?_) (fun s i j h => ?_) hl s
  · obtain ⟨_, _, h⟩ := settleEntry_frame tally s i
    rw [h]
  · have hsame := settleEntry_sameReading tally s h
    exact ⟨by rw [hsame.counted, hsame.givesUp], hsame.unconfirmedRecord tally⟩

end Sys2Proof.Machine.State

/-! SUPPORT. The end of a won notice as one whole: the Announcement Unit's part, then the guard's test or the eighth fault. -/

namespace Sys2Proof.Machine.State

/-! ### The Announcement Unit's part (R70) -/

section EndOfNotice

variable (s : State) (n : Notice) (tally : Option StationSet)

theorem endOfWonNotice_eq :
    s.endOfWonNotice n tally =
      let ended := n.carried.foldl (settleEntry (tally.getD 0#16)) (s.booked n tally)
      { ended with announcer := { ended.announcer with beaconTimer := some (s.ticks + s.beaconTicks), beaconDue := false } } := by
  cases tally <;> rfl

/-- It leaves every field but the announce entries, the beacon, the slots and the Event Queue. -/
theorem endOfWonNotice_changes :
    let t := s.endOfWonNotice n tally
    t = { s with
      announcer := ⟨t.announcer.entries, some (s.ticks + s.beaconTicks), false⟩
      roster := { s.roster with slots := t.roster.slots }
      events := t.events } := by
  rw [endOfWonNotice_eq]
  obtain ⟨_, _, hsettled⟩ := settleAll_frame (tally.getD 0#16) (s.booked n tally) n.carried
  obtain ⟨_, _, hbooked⟩ := booked_frame s n tally
  dsimp only
  rw [hsettled, hbooked]

theorem endOfWonNotice_slots : (s.endOfWonNotice n tally).roster.slots = (s.booked n tally).roster.slots := by
  obtain ⟨_, _, hsettled⟩ := settleAll_frame (tally.getD 0#16) (s.booked n tally) n.carried
  rw [endOfWonNotice_eq]
  dsimp only
  rw [hsettled]

/-- The settlement finds each entry, its own record and the expected hearers as the end finds them with the slots that the
bookkeeping leaves. -/
theorem booked_sameReading {hearers : State} (hslots : hearers.roster.slots = (s.endOfWonNotice n tally).roster.slots)
    (hcode : hearers.station.code = s.station.code) (i : Fin 4) :
    SameReading s (s.booked n tally) hearers (s.booked n tally) i := by
  rw [endOfWonNotice_slots] at hslots
  obtain ⟨_, _, h⟩ := booked_frame s n tally
  exact ⟨by rw [h], by rw [h], by rw [h], hslots.symm, by rw [h, hcode]⟩

variable {s n tally} {hearers : State}

theorem endOfWonNotice_entries (hn : n.carried.Nodup)
    (hslots : hearers.roster.slots = (s.endOfWonNotice n tally).roster.slots) (hcode : hearers.station.code = s.station.code)
    (i : Fin 4) :
    (s.endOfWonNotice n tally).announcer.entries.get i =
      if i ∈ countedEntries s n then
        settled (s.announcer.entries.get i) (tally.getD 0#16) (missingAt s hearers (tally.getD 0#16) i)
      else s.announcer.entries.get i := by
  have hsame := booked_sameReading s n tally hslots hcode i
  rw [endOfWonNotice_eq]
  dsimp only
  rw [settleAll_entries _ _ hn, hsame.entrySettled, hsame.entry]
  simp only [entrySettled, counted, countedEntries, List.mem_filter, decide_eq_true_eq]
  by_cases hcarried : i ∈ n.carried <;> simp [hcarried]

theorem endOfWonNotice_events (hn : n.carried.Nodup)
    (hslots : hearers.roster.slots = (s.endOfWonNotice n tally).roster.slots) (hcode : hearers.station.code = s.station.code) :
    (s.endOfWonNotice n tally).events = pushedAll s (endRecords s hearers n tally) := by
  have hsame := booked_sameReading s n tally hslots hcode
  have hunconfirmed :
      (n.carried.filter fun i =>
        (s.booked n tally).counted i && (s.booked n tally).givesUp (s.booked n tally) (tally.getD 0#16) i).map
        ((s.booked n tally).unconfirmedRecord (s.booked n tally) (tally.getD 0#16)) =
      (unconfirmed s hearers n (tally.getD 0#16)).map (s.unconfirmedRecord hearers (tally.getD 0#16)) := by
    rw [unconfirmed, countedEntries, List.filter_filter]
    rw [List.filter_congr fun i _ => by rw [(hsame i).counted, (hsame i).givesUp, Bool.and_comm]]
    exact List.map_congr_left fun i _ => (hsame i).unconfirmedRecord _
  obtain ⟨_, _, hbooked⟩ := booked_frame s n tally
  rw [endOfWonNotice_eq]
  dsimp only
  rw [settleAll_events _ _ hn, hunconfirmed]
  cases tally with
  | none => rfl
  | some slots => exact (pushedAll_append (by rw [hbooked]) (booked_events s n slots) _).symm

end EndOfNotice

/-! ### The guard's test and the eighth fault (R53, R86, R89) -/

/-- A test of the join guard moves a JOINING station whose window has elapsed to ACTIVE where the guard holds (R86). -/
theorem testGuard_eq (s : State) :
    s.testGuard =
      let opens := s.roster.mode = .joining ∧ s.roster.windowElapsed = true ∧ s.joinGuard = true
      { s with
        roster := { s.roster with
          mode := if opens then .active else s.roster.mode, joinWindow := if opens then none else s.roster.joinWindow }
        events := pushedAll s
          (if opens then [(idByte s.station.code, .modeChange .joining .active .joinDone)] else []) } := by
  unfold testGuard
  dsimp only
  by_cases hopens : s.roster.mode = .joining ∧ s.roster.windowElapsed = true ∧ s.joinGuard = true
  · simp only [if_pos hopens]
    simp only [changeMode_frame, hopens.1]
    rfl
  · simp only [if_neg hopens]
    rfl

theorem testGuard_roster (s : State) :
    s.testGuard.roster =
      let opens := s.roster.mode = .joining ∧ s.roster.windowElapsed = true ∧ s.joinGuard = true
      { s.roster with
        mode := if opens then .active else s.roster.mode, joinWindow := if opens then none else s.roster.joinWindow } := by
  rw [testGuard_eq]

theorem testGuard_events (s : State) :
    s.testGuard.events =
      let opens := s.roster.mode = .joining ∧ s.roster.windowElapsed = true ∧ s.joinGuard = true
      pushedAll s (if opens then [(idByte s.station.code, .modeChange .joining .active .joinDone)] else []) := by
  rw [testGuard_eq]

@[simp] theorem testGuard_slots (s : State) : s.testGuard.roster.slots = s.roster.slots := by
  rw [testGuard_eq]

theorem isolate_eq (s : State) :
    s.isolate = { s with
      lane := { s.lane with slotPermitted := false }
      announcer := s.silenceAnnouncer.announcer
      roster := { s.roster with mode := .isolated, joinWindow := none, cooldown := some (s.ticks + 2000000) }
      events := pushedAll s [(idByte s.station.code, .modeChange s.roster.mode .isolated .fault)] } := rfl

/-! ### The whole end (R51 to R53) -/

section WonNotice

variable (s : State) (n : Notice) (tally : Option StationSet)

theorem gapFromNow_eq : s.gapFromNow = recounted s := rfl

/-- The station once the end of a won notice has been taken, before the guard's test or the eighth fault's move. -/
def wonEnd : State := (s.withLane (laneAfterEnd s tally (ownHeard s tally))).endOfWonNotice n tally

theorem wonNoticeEnds_eq :
    s.wonNoticeEnds n tally =
      if ownHeard s tally = false ∧ 7 ≤ s.lane.faults ∧ s.roster.mode.transmits = true then (s.wonEnd n tally).isolate
      else (s.wonEnd n tally).testGuard := by
  have heighth : min 8 (s.lane.faults + 1) = 8 ↔ 7 ≤ s.lane.faults := by omega
  unfold wonNoticeEnds wonEnd laneAfterEnd
  cases tally with
  | none =>
    have hown : ownHeard s none = false := by simp [ownHeard, StationSet.has]
    simp only [hown, gapFromNow_eq, Config.faultLimit, Bool.false_eq_true, if_false, heighth]
  | some slots =>
    have hown : slots.has s.station.code = ownHeard s (some slots) := rfl
    simp only [hown, gapFromNow_eq, Config.faultLimit]
    cases ownHeard s (some slots)
    · simp only [Bool.false_eq_true, if_false, heighth]
    · simp only [Bool.true_eq_false, false_and, if_false]

theorem wonEnd_changes :
    s.wonEnd n tally = { s with
      lane := laneAfterEnd s tally (ownHeard s tally)
      announcer := ⟨(s.wonEnd n tally).announcer.entries, some (s.ticks + s.beaconTicks), false⟩
      roster := { s.roster with slots := (s.wonEnd n tally).roster.slots }
      events := (s.wonEnd n tally).events } :=
  endOfWonNotice_changes ..

@[simp] theorem wonEnd_ticks : (s.wonEnd n tally).ticks = s.ticks := by rw [wonEnd_changes]
@[simp] theorem wonEnd_station : (s.wonEnd n tally).station = s.station := by rw [wonEnd_changes]
@[simp] theorem wonEnd_lane : (s.wonEnd n tally).lane = laneAfterEnd s tally (ownHeard s tally) := by
  rw [wonEnd_changes]
@[simp] theorem wonEnd_beaconTimer : (s.wonEnd n tally).announcer.beaconTimer = some (s.ticks + s.beaconTicks) := by
  rw [wonEnd_changes]
@[simp] theorem wonEnd_beaconDue : (s.wonEnd n tally).announcer.beaconDue = false := by rw [wonEnd_changes]
@[simp] theorem wonEnd_mode : (s.wonEnd n tally).roster.mode = s.roster.mode := by rw [wonEnd_changes]
@[simp] theorem wonEnd_joinWindow : (s.wonEnd n tally).roster.joinWindow = s.roster.joinWindow := by rw [wonEnd_changes]
@[simp] theorem wonEnd_windowElapsed : (s.wonEnd n tally).roster.windowElapsed = s.roster.windowElapsed := by
  rw [wonEnd_changes]
@[simp] theorem wonEnd_cooldown : (s.wonEnd n tally).roster.cooldown = s.roster.cooldown := by rw [wonEnd_changes]

theorem wonEnd_slots_of_completed (slots : StationSet) (k : Fin 16) :
    (s.wonEnd n (some slots)).roster.slots.get k = bookkept s n.join slots k := by
  rw [wonEnd, endOfWonNotice_slots, booked_slots]
  rfl

theorem wonEnd_slots_of_aborted (k : Fin 16) : (s.wonEnd n none).roster.slots.get k = s.roster.slots.get k := by
  rw [wonEnd, endOfWonNotice_slots]
  rfl

variable {s n tally} {hearers : State} {c : Instr}

theorem wonEnd_entries (hn : n.carried.Nodup) (hslots : hearers.roster.slots = (s.wonEnd n tally).roster.slots)
    (hcode : hearers.station.code = s.station.code) (i : Fin 4) :
    (s.wonEnd n tally).announcer.entries.get i =
      if i ∈ countedEntries s n then
        settled (s.announcer.entries.get i) (tally.getD 0#16) (missingAt s hearers (tally.getD 0#16) i)
      else s.announcer.entries.get i :=
  endOfWonNotice_entries hn hslots hcode i

theorem wonEnd_events (hn : n.carried.Nodup) (hslots : hearers.roster.slots = (s.wonEnd n tally).roster.slots)
    (hcode : hearers.station.code = s.station.code) :
    (s.wonEnd n tally).events = pushedAll s (endRecords s hearers n tally) :=
  endOfWonNotice_events hn hslots hcode

/-- The command that ends a won notice takes its end. -/
theorem exec_of_endsNotice (h : EndsNotice s c n tally) : exec c s = .next (s.wonNoticeEnds n tally) := by
  obtain ⟨hcaptured, -, ⟨rfl, htx, rfl⟩ | ⟨slots, rfl, htx, rfl⟩⟩ := h
  · simp [exec, execAbortPatternEnd, htx, hcaptured]
  · simp [exec, execNoticeCompleted, htx, hcaptured]

end WonNotice

end Sys2Proof.Machine.State

/-! PROOF. The end of a won notice, short of an eighth fault and at it. -/

namespace Sys2Proof.FailoverLane

open Sys2Proof.Machine

/-- Settles O39: the end is `State.wonEnd` and the test of the guard, which reads the slots that the bookkeeping leaves. -/
theorem endOfWonNoticeIsTakenWhole : Obligations.EndOfWonNoticeIsTakenWhole := by
  unfold Obligations.EndOfWonNoticeIsTakenWhole
  intro s c n tally hends hshort
  have hguard : s.wonNoticeEnds n tally = (s.wonEnd n tally).testGuard := by
    rw [State.wonNoticeEnds_eq, if_neg]
    rintro ⟨hown, hfaults, hmode⟩
    rw [State.transmits_iff] at hmode
    obtain hown' | hfaults' | ⟨hjoining, hactive⟩ := hshort
    · rw [hown] at hown'
      cases hown'
    · omega
    · exact hmode.elim hjoining hactive
  have hslots : (s.wonNoticeEnds n tally).roster.slots = (s.wonEnd n tally).roster.slots := by
    rw [hguard, State.testGuard_slots]
  have hjoinGuard := State.joinGuard_congr hslots
  have ⟨_, hcarried, _⟩ := hends
  obtain ⟨_, _, _, _, hframe⟩ := State.wonNoticeEnds_frame s n tally
  have hcode : (s.wonNoticeEnds n tally).station.code = s.station.code := by rw [hframe]
  refine ⟨s.wonNoticeEnds n tally, State.exec_of_endsNotice hends, ?_, fun k => ?_, fun i => ?_, ?_, ?_, ⟨?_, ?_⟩, ?_⟩
  · rw [hguard, State.testGuard_lane, State.wonEnd_lane]
  · rw [hslots]
    cases tally with
    | none => exact State.wonEnd_slots_of_aborted s n k
    | some slots => exact State.wonEnd_slots_of_completed s n slots k
  · rw [← State.wonEnd_entries hcarried hslots hcode, hguard, State.testGuard_announcer]
  · rw [hguard, State.testGuard_announcer, State.wonEnd_beaconTimer]
  · rw [hguard, State.testGuard_announcer, State.wonEnd_beaconDue]
  · rw [hjoinGuard, hslots, hguard]
    simp only [State.testGuard_roster, State.wonEnd_mode, State.wonEnd_windowElapsed, State.wonEnd_joinWindow,
      State.wonEnd_cooldown]
  · rw [State.pushedAll_append (State.wonEnd_ticks s n tally) (State.wonEnd_events hcarried hslots hcode), hjoinGuard, hguard]
    simp only [State.testGuard_events, State.wonEnd_mode, State.wonEnd_windowElapsed, State.wonEnd_station]
  · rw [hframe]

/-- Settles O40: the end is `State.wonEnd` and the move to ISOLATED, which keeps the slots that the bookkeeping leaves. -/
theorem eighthFaultIsolatesTheStation : Obligations.EighthFaultIsolatesTheStation := by
  unfold Obligations.EighthFaultIsolatesTheStation
  intro s c n tally hends hown hfaults hmode
  have hisolated : s.wonNoticeEnds n tally = (s.wonEnd n tally).isolate := by
    rw [State.wonNoticeEnds_eq, if_pos ⟨hown, hfaults, (State.transmits_iff _).mpr hmode⟩]
  have hslots : (s.wonNoticeEnds n tally).roster.slots = (s.wonEnd n tally).roster.slots := by
    rw [hisolated, State.isolate_eq]
  have ⟨_, hcarried, _⟩ := hends
  obtain ⟨_, _, _, _, hframe⟩ := State.wonNoticeEnds_frame s n tally
  have hcode : (s.wonNoticeEnds n tally).station.code = s.station.code := by rw [hframe]
  refine ⟨s.wonNoticeEnds n tally, State.exec_of_endsNotice hends, ?_, ?_, fun k => ?_, ⟨fun i => ?_, ?_, ?_⟩, ?_, ?_, ?_⟩
  · rw [hisolated, State.isolate_eq, State.wonEnd_lane, hown]
  · rw [hisolated, State.isolate_eq, State.wonEnd_lane, hown]
    simp only [laneAfterEnd, Bool.false_eq_true, if_false]
    omega
  · rw [hslots]
    cases tally with
    | none => exact State.wonEnd_slots_of_aborted s n k
    | some slots => exact State.wonEnd_slots_of_completed s n slots k
  · rw [hisolated, State.isolate_eq]
    simp only [State.silenceAnnouncer, Table.get_tabulate, State.wonEnd_entries hcarried hslots hcode, settled]
    split
    · split <;> rfl
    · rfl
  · rw [hisolated]
    rfl
  · rw [hisolated]
    rfl
  · rw [hslots, hisolated, State.isolate_eq]
    simp only [State.wonEnd_windowElapsed, State.wonEnd_ticks]
  · rw [State.pushedAll_append (State.wonEnd_ticks s n tally) (State.wonEnd_events hcarried hslots hcode), hisolated,
      State.isolate_eq]
    simp only [State.wonEnd_mode, State.wonEnd_station]
  · rw [hframe]

end Sys2Proof.FailoverLane

/-! SUPPORT. The notice captured at an offer (R66 to R68, R77), and what a receiver finds of it when its bits arrive as sent
(R46, R56, R171). -/

namespace Sys2Proof.Machine

/-! ### A notice on the wire -/

/-- A good notice with the own fingerprint is accepted (R56, R57). -/
theorem judge_of_good {n : RxNotice} (hgood : Good n) {own : Half} (hown : n.fingerprint = own) : judge own n = .accepted := by
  obtain ⟨hcrc, hkind, hindexes, hpause⟩ := hgood
  simp [judge, RxNotice.distinctIndexes, hcrc, hkind, hindexes, hpause, hown]

/-- A receiver finds the records that were sent: one to four of them fit the record count (R46). -/
theorem Notice.wire_records {n : Notice} (hsome : 1 ≤ n.records.length) (hfit : n.records.length ≤ 4) :
    n.wire.records = n.records := by
  obtain ⟨kind, sender, join, fingerprint, records⟩ := n
  match records, hsome, hfit with
  | [_], _, _ => rfl
  | [_, _], _, _ => rfl
  | [_, _, _], _, _ => rfl
  | [_, _, _, _], _, _ => rfl

theorem NoticeKind.code_ne_three (k : NoticeKind) : k.code ≠ 3#2 := by cases k <;> decide

/-- A notice of one to four records with distinct indexes passes checks 1 to 4 when its bits arrive as sent (R56). -/
theorem Notice.wire_good {n : Notice} (hsome : 1 ≤ n.records.length) (hfit : n.records.length ≤ 4)
    (hindexes : (n.records.map Record.index).Nodup) : Good n.wire := by
  have hrecords := n.wire_records hsome hfit
  refine ⟨?_, n.kind.code_ne_three, by rwa [hrecords], rfl⟩
  rw [RxNotice.crcComputed, hrecords, Notice.wire]

/-- A field's bits, most significant first, are the binary digits of its value (R46). -/
theorem msbFirst_eq_testBit (w : Nat) (x : BitVec w) :
    msbFirst w x = (List.range w).map fun k => x.toNat.testBit (w - 1 - k) := by
  refine List.map_congr_left fun k hk => ?_
  rw [BitVec.getMsbD, decide_eq_true (List.mem_range.mp hk), Bool.true_and, BitVec.getLsbD]

/-- One more bit through the CRC register (R171). -/
theorem crcOf_append (bits : List Bool) (b : Bool) :
    crcOf (bits ++ [b]) =
      if (crcOf bits).getLsbD 15 != b then (crcOf bits <<< 1) ^^^ 0x1021#16 else crcOf bits <<< 1 := by
  rw [crcOf, List.foldl_append]
  change crcStep (crcOf bits) b = _
  rw [crcStep, BitVec.msb_eq_getLsbD_last]

theorem noticeLayout : NoticeLayout := by
  refine ⟨fun kind sender join count fingerprint records => ?_, rfl, crcOf_append, fun n => ⟨rfl, rfl⟩⟩
  intro bit field stateCode
  have hsender : (BitVec.ofNat 4 sender.val).toNat = sender.val := by simp
  have hindex (i : Fin 4) : (BitVec.ofNat 2 i.val).toNat = i.val := by simp
  have hstate (m : MapState) : m.code.toNat = stateCode m := by cases m <;> rfl
  have hrecord : Record.bits = fun r =>
      field 2 r.index.val ++ field 2 (stateCode r.state) ++ field 8 r.epoch.toNat ++ field 3 r.cause.toNat := by
    funext r
    simp only [Record.bits, msbFirst_eq_testBit, hindex, hstate]
    rfl
  simp only [noticeBits, msbFirst_eq_testBit, hsender, hrecord]
  rfl

namespace State

/-! ### The entries that wait (R64, R66) -/

theorem waiting_nodup (s : State) : s.waiting.Nodup := localIndexes_nodup.filter _

theorem waiting_ne_nil_iff (s : State) : s.waiting ≠ [] ↔ ∃ i : Fin 4, (s.announcer.entries.get i).state ≠ .clean := by
  simp [waiting, mem_indexes]

/-! ### The notice captured (R67, R68) -/

/-- The local indexes of the records captured: those that wait, or all four in a BEACON (R67, R68). -/
def captureIndexes (s : State) : List (Fin 4) := if s.waiting = [] then [0, 1, 2, 3] else s.waiting

theorem captureIndexes_nodup (s : State) : s.captureIndexes.Nodup := by
  unfold captureIndexes
  split
  · exact localIndexes_nodup
  · exact s.waiting_nodup

theorem captureIndexes_ne_nil (s : State) : s.captureIndexes ≠ [] := by
  unfold captureIndexes
  split
  · exact List.cons_ne_nil _ _
  · assumption

theorem capture_eq (s : State) :
    s.capture =
      { kind := if s.waiting = [] then .beacon
          else if ∀ i ∈ s.waiting, (s.ownEntry i).state = .inService then .update else .alert
        sender := s.station.code
        join := decide (s.roster.mode = .joining)
        fingerprint := s.station.fingerprint
        records := s.captureIndexes.map s.ownRecord } := by
  unfold capture captureIndexes
  by_cases hnone : s.waiting = []
  · simp [hnone, indexes]
  · have hserving : (s.waiting.map s.ownRecord).all (fun r => decide (r.state = .inService)) =
        decide (∀ i ∈ s.waiting, (s.ownEntry i).state = .inService) := by
      simp [List.all_eq, ownRecord]
    simp [hnone, hserving]

theorem capture_indexes (s : State) : s.capture.records.map Record.index = s.captureIndexes := by
  rw [capture_eq, List.map_map]
  exact List.map_id _

theorem capture_length (s : State) : s.capture.records.length = s.captureIndexes.length := by
  rw [← capture_indexes, List.length_map]

theorem capture_some (s : State) : 1 ≤ s.capture.records.length := by
  rw [capture_length]
  exact List.length_pos_iff.mpr s.captureIndexes_ne_nil

theorem capture_fits (s : State) : s.capture.records.length ≤ 4 := by
  rw [capture_length]
  exact s.captureIndexes_nodup.length_le_card

theorem capture_good (s : State) : Good s.capture.wire :=
  Notice.wire_good s.capture_some s.capture_fits (by rw [capture_indexes]; exact s.captureIndexes_nodup)

/-- The capture writes the sent epoch of each entry that waits (R67). -/
theorem writeSentEpochs_get (s : State) (i : Fin 4) :
    s.writeSentEpochs.announcer.entries.get i =
      if i ∈ s.waiting then { s.announcer.entries.get i with sentEpoch := (s.ownEntry i).epoch }
      else s.announcer.entries.get i :=
  foldl_get (table := fun t => t.announcer.entries)
    (cell := fun t i => { t.announcer.entries.get i with sentEpoch := (s.ownEntry i).epoch })
    (fun _ _ => rfl) (fun _ _ _ h => by simp [Table.get_set_of_ne h]) s.waiting_nodup s i

/-! ### The offer (R48, R66 to R68) -/

/-- The station once it has offered a start: the notice captured, the start mark's lead on the lane (log 9). -/
def offerStarted (s : State) : State :=
  s.writeSentEpochs.withLane { s.lane with
    tx := .arbitrating
    captured := some s.capture
    tally := none
    quiet := false
    gapEnd := some (s.ticks + 13)
    rx := if s.lane.rx = .ready then .receiving else s.lane.rx }

theorem exec_noticeStartOffer (s : State) :
    exec .noticeStartOffer s = .next (if s.offersStart then s.offerStarted else s) := by
  obtain ⟨_, h⟩ := s.writeSentEpochs_frame
  rw [exec, execNoticeStartOffer, offerStarted, h]
  rfl

end State

end Sys2Proof.Machine

/-! PROOF. The offer, and the notice it captures. -/

namespace Sys2Proof.FailoverLane

open Sys2Proof.Machine

/-- Settles O36: the offer's test is the five conditions, and the sent epochs are written entry by entry. -/
theorem offerCapturesTheNotice : Obligations.OfferCapturesTheNotice := by
  unfold Obligations.OfferCapturesTheNotice
  intro s waiting carried own offered
  have hoffered : s.offersStart = true ↔ offered := by
    rw [State.offersStart_iff, WouldOffer, ← State.waiting_ne_nil_iff]
    rfl
  refine ⟨fun hnot => ?_, fun hoffer => ?_⟩
  · rw [State.exec_noticeStartOffer, if_neg (mt hoffered.mp hnot)]
  · have ⟨_, _, hready, _⟩ := hoffer
    obtain ⟨_, hframe⟩ := s.writeSentEpochs_frame
    refine ⟨s.offerStarted, by rw [State.exec_noticeStartOffer, if_pos (hoffered.mpr hoffer)], ?_, s.writeSentEpochs_get, ?_⟩
    · simp only [State.offerStarted, State.withLane_lane, hready, State.capture_eq]
      rfl
    · rw [State.offerStarted, hframe]
      rfl

/-- Settles O37: the records captured are one to four with distinct indexes, which is all that the checks ask of a notice as
sent. -/
theorem capturedNoticePassesEveryCheck : Obligations.CapturedNoticePassesEveryCheck := by
  unfold Obligations.CapturedNoticePassesEveryCheck
  refine ⟨fun s => ⟨judge_of_good s.capture_good ?_, Notice.wire_records s.capture_some s.capture_fits, ?_,
    s.capture_some, s.capture_fits⟩, noticeLayout⟩
  · rw [State.capture_eq]
    rfl
  · rw [State.capture_eq]
    rfl

end Sys2Proof.FailoverLane

/-! SUPPORT. The receiver's decision (R50, R56, R57), by its outcome, and the end of a quiet gap (R45). -/

namespace Sys2Proof.Machine

/-! ### The outcome of the checks (R56) -/

theorem judge_of_badCrc {n : RxNotice} (hcrc : n.crcComputed ≠ n.crc) (own : Half) : judge own n = .crcError := if_pos hcrc

/-- Checks 2 to 4 set one flag, whichever fails first. -/
theorem judge_of_badFormat {n : RxNotice} (hcrc : n.crcComputed = n.crc)
    (hformat : n.kind = 3#2 ∨ ¬ (n.records.map Record.index).Nodup ∨ n.pause ≠ 3#2) (own : Half) :
    judge own n = .formatError := by
  unfold judge
  rw [if_neg (not_not.mpr hcrc)]
  by_cases hkind : n.kind = 3#2
  · rw [if_pos hkind]
  · by_cases hindexes : (n.records.map Record.index).Nodup
    · have hpause : n.pause ≠ 3#2 := (hformat.resolve_left hkind).resolve_left (not_not.mpr hindexes)
      rw [if_neg hkind, if_neg (by simp [RxNotice.distinctIndexes, hindexes]), if_pos hpause]
    · rw [if_neg hkind, if_pos (by simp [RxNotice.distinctIndexes, hindexes])]

theorem judge_of_foreign {n : RxNotice} (hgood : Good n) {own : Half} (hforeign : n.fingerprint ≠ own) :
    judge own n = .foreign := by
  obtain ⟨hcrc, hkind, hindexes, hpause⟩ := hgood
  simp [judge, RxNotice.distinctIndexes, hcrc, hkind, hindexes, hpause, hforeign]

namespace State

variable {s : State} {n : RxNotice}

/-! ### The decision of a receiver that follows no notice, and of one that does -/

/-- The transmitter's part of a decision: one that has sent its notice without mismatch goes to CLOSING (R50). -/
def decided (s : State) : State :=
  s.withLane { s.lane with tx := if s.lane.tx = .sending then .closing else s.lane.tx }

theorem decided_eq (s : State) : (if s.lane.tx = .sending then s.withLane { s.lane with tx := .closing } else s) = s.decided := by
  unfold decided
  split
  · rfl
  · rfl

@[simp] theorem decided_station (s : State) : s.decided.station = s.station := rfl

theorem exec_noticeDecision (n : RxNotice) (s : State) :
    exec (.noticeDecision n) s = .next (if s.lane.rx = .receiving then s.decided.receive n else s.decided) := by
  rw [exec, execNoticeDecision, decided_eq]
  rfl

/-! ### The receiver's part, by its judgement (R56, R57) -/

theorem noticeDecision_of_badCrc (hrx : s.lane.rx = .receiving) (hcrc : n.crcComputed ≠ n.crc) :
    exec (.noticeDecision n) s = .next (s.withLane (laneDropped s { s.lane.flags with crcError := true })) := by
  rw [exec_noticeDecision, if_pos hrx, receive, decided_station, judge_of_badCrc hcrc]
  rfl

theorem noticeDecision_of_badFormat (hrx : s.lane.rx = .receiving) (hcrc : n.crcComputed = n.crc)
    (hformat : n.kind = 3#2 ∨ ¬ (n.records.map Record.index).Nodup ∨ n.pause ≠ 3#2) :
    exec (.noticeDecision n) s = .next (s.withLane (laneDropped s { s.lane.flags with formatError := true })) := by
  rw [exec_noticeDecision, if_pos hrx, receive, decided_station, judge_of_badFormat hcrc hformat]
  rfl

theorem noticeDecision_of_foreign (hrx : s.lane.rx = .receiving) (hgood : Good n) (hforeign : n.fingerprint ≠ s.station.fingerprint) :
    exec (.noticeDecision n) s =
      .next (let dropped := s.withLane (laneDropped s { s.lane.flags with fingerprintMismatch := true })
        if n.sender = s.station.code then dropped else dropped.takeForeign n) := by
  rw [exec_noticeDecision, if_pos hrx, receive, decided_station, judge_of_foreign hgood hforeign]
  rfl

theorem transmits_eq (m : Mode) : m.transmits = decide (m = .joining ∨ m = .active) := by
  simp only [← transmits_iff, Bool.decide_eq_true]

theorem noticeDecision_of_accepted (hrx : s.lane.rx = .receiving) (hgood : Good n) (hown : n.fingerprint = s.station.fingerprint) :
    exec (.noticeDecision n) s =
      .next (let closing := s.withLane (laneAccepted s)
        if n.sender = s.station.code then closing else closing.takeNotice n) := by
  rw [exec_noticeDecision, if_pos hrx, receive, decided_station, judge_of_good hgood hown, laneAccepted, ← transmits_eq]
  rfl

/-! ### Notices taken (R94, R95) -/

theorem unheard_iff (x : Slot) :
    unheard x = true ↔ x.state = .unknown ∨ x.state = .silent ∨ x.state = .excluded := by
  unfold unheard
  cases x.state <;> simp

/-- A notice of a peer not at present heard pushes PEER_JOINED, and its records are taken unconditionally (R7, R94). -/
theorem takeNotice_of_unheard (h : unheard (s.roster.slots.get n.sender) = true) :
    s.takeNotice n =
      let x := s.roster.slots.get n.sender
      let y := s.heardSlot x n.join
      n.records.foldl (applyRecord true n.sender)
        ((s.setSlot n.sender y).push (idByte n.sender) (.peerJoined x.state y.state)) := by
  simp only [takeNotice, h, Bool.or_true, if_true]

/-- A notice of a heard peer pushes nothing, and its records are taken unconditionally by its join bit alone (R7, R94). -/
theorem takeNotice_of_heard (h : unheard (s.roster.slots.get n.sender) = false) :
    s.takeNotice n = n.records.foldl (applyRecord n.join n.sender)
      (s.setSlot n.sender (s.heardSlot (s.roster.slots.get n.sender) n.join)) := by
  simp only [takeNotice, h, Bool.or_false, Bool.false_eq_true, if_false]

theorem takeForeign_of_excluded (h : (s.roster.slots.get n.sender).state = .excluded) :
    s.takeForeign n = s.setSlot n.sender { s.roster.slots.get n.sender with
      silence := some (s.ticks + s.silenceTicks), foreign := some n.fingerprint } := if_pos h

theorem takeForeign_of_other (h : (s.roster.slots.get n.sender).state ≠ .excluded) :
    s.takeForeign n =
      ((((s.setSlot n.sender ⟨.excluded, some (s.ticks + s.silenceTicks), 0, false, false, some n.fingerprint⟩).push
        (idByte n.sender) (.peerExcluded (s.roster.slots.get n.sender).state n.fingerprint)).rosterClaim
          n.sender).testGuard) := if_neg h

/-! ### The quiet gap and the tally slot (R45, R54, R58) -/

/-- The end of a quiet gap that can end takes a seeking or discarding receiver to READY. -/
theorem exec_quietGapEnd (hrst : s.rstHeld = false) :
    exec .quietGapEnd s = .next (if s.gapCanEnd then s.withLane { s.lane with
      quiet := true, gapEnd := none
      rx := if s.lane.rx = .seeking ∨ s.lane.rx = .discarding then .ready else s.lane.rx } else s) := by
  rw [exec, execQuietGapEnd, hrst, Bool.false_or]
  cases s.gapCanEnd with
  | false => rfl
  | true => cases hrx : s.lane.rx <;> simp

theorem drivesOwnSlot_iff (s : State) :
    s.drivesOwnSlot = true ↔
      s.lane.rx = .closing ∧ s.lane.slotPermitted = true ∧ (s.roster.mode = .joining ∨ s.roster.mode = .active) := by
  simp only [drivesOwnSlot, Bool.and_eq_true, decide_eq_true_eq, transmits_iff, and_assoc]

end State

end Sys2Proof.Machine

/-! PROOF. The quiet gap, the transmitter's moves, the decision on a notice received, and the other ends of a reception. -/

namespace Sys2Proof.FailoverLane

open Sys2Proof.Machine

/-! ### Notices received -/

/-- Settles O42: the sender is this station, or a peer in a slot that is EXCLUDED already, or one in any other. -/
theorem foreignNoticeExcludesItsSender : Obligations.ForeignNoticeExcludesItsSender := by
  unfold Obligations.ForeignNoticeExcludesItsSender
  intro s n hrx hgood hforeign
  dsimp only
  rw [State.noticeDecision_of_foreign hrx hgood hforeign]
  dsimp only
  refine ⟨fun hown => ?_, fun hpeer hexcluded => ?_, fun hpeer hother => ?_⟩
  · rw [if_pos hown]
    rfl
  · rw [if_neg hpeer]
    exact congrArg Host.Outcome.next (State.takeForeign_of_excluded hexcluded)
  · rw [if_neg hpeer]
    exact congrArg Host.Outcome.next (State.takeForeign_of_other hother)

/-- Settles O43: the sender is this station, or a peer not heard at present, or one that is. -/
theorem acceptedNoticeIsHandedOn : Obligations.AcceptedNoticeIsHandedOn := by
  unfold Obligations.AcceptedNoticeIsHandedOn
  refine ⟨fun s n hrx hgood hown => ?_, State.drivesOwnSlot_iff⟩
  dsimp only
  rw [State.noticeDecision_of_accepted hrx hgood hown, ← State.unheard_iff]
  dsimp only
  refine ⟨fun hself => ?_, fun hpeer hunheard => ?_, fun hpeer hheard => ?_⟩
  · rw [if_pos hself]
    rfl
  · rw [if_neg hpeer]
    exact congrArg Host.Outcome.next (State.takeNotice_of_unheard hunheard)
  · rw [if_neg hpeer]
    exact congrArg Host.Outcome.next (State.takeNotice_of_heard (Bool.eq_false_of_not_eq_true hheard))

/-- Settles O41: the first check that fails decides the flag, and the notice goes no further than the lane. -/
theorem badNoticesReachNoOne : Obligations.BadNoticesReachNoOne := by
  unfold Obligations.BadNoticesReachNoOne
  intro s n
  refine ⟨fun hrx => ?_, fun hrx => ⟨State.noticeDecision_of_badCrc hrx, State.noticeDecision_of_badFormat hrx⟩⟩
  rw [State.exec_noticeDecision, if_neg hrx]
  rfl

/-- Settles O45: each event by the receiver's state, RECEIVING or CLOSING. -/
theorem receptionEndsByItsState : Obligations.ReceptionEndsByItsState := by
  unfold Obligations.ReceptionEndsByItsState
  intro s
  refine ⟨fun hrx => ⟨?_, ?_, ?_⟩, fun hrx => ⟨?_, ?_, ?_⟩⟩
  · rw [exec, execReceiveAbort, hrx]
    rfl
  · rw [exec, execReceiveTruncation, hrx]
    rfl
  · rw [exec, execBadStartMark, if_pos hrx]
    rfl
  · rw [exec, execReceivedNoticeEnd, if_pos hrx]
    rfl
  · rw [exec, execReceiveAbort, hrx]
    rfl
  · rw [exec, execReceiveTruncation, hrx]
    rfl

/-! ### Quiet and the transmitter -/

/-- Settles O35: a gap ends where it can, and where it cannot its end changes nothing. -/
theorem quietGapAndDominantLevel : Obligations.QuietGapAndDominantLevel := by
  unfold Obligations.QuietGapAndDominantLevel
  intro s hrst
  refine ⟨fun htx hreceiving hclosing => ?_, fun hnot => ?_, ?_⟩
  · rw [State.exec_quietGapEnd hrst, if_pos ((State.gapCanEnd_iff s).mpr ⟨htx, hreceiving, hclosing⟩)]
    rfl
  · rw [State.exec_quietGapEnd hrst, if_neg]
    rw [State.gapCanEnd_iff]
    tauto
  · rw [exec, execLaneDominantLevel, if_neg (by simp [hrst])]
    rfl

/-- Settles O38: each event of the transmitter in the states that have it. -/
theorem transmitterMoves : Obligations.TransmitterMoves := by
  unfold Obligations.TransmitterMoves
  intro s
  refine ⟨fun htx => ⟨?_, ?_⟩, fun htx => ?_, fun htx hnone => ?_⟩
  · rw [exec, execArbitrationLost, if_pos htx]
    rfl
  · rw [exec, execArbitrationWon, if_pos htx]
    rfl
  · obtain htx | htx := htx
    · rw [exec, execTxMismatch, htx]
      rfl
    · rw [exec, execTxMismatch, htx]
      rfl
  · rw [exec, execAbortPatternEnd, if_pos htx, hnone]
    rfl

end Sys2Proof.FailoverLane

/-! SUPPORT. What a detector replaced, a transition and a record pushed keep is kept by every move of a detector, and by every
command that moves one or configures it. -/

namespace Sys2Proof

/-- The commands that configure or move one detector: SET UPLINK, the operator's three commands on an uplink, the condition
lines and the detectors' timers. -/
def Instr.movesOneDetector : Instr → Bool
  | .setUplink _ | .drain _ | .undrain _ | .release _ | .losChange _ _ | .lockChange _ _ | .heartbeatPulse _
  | .heartbeatWatchdogExpiry _ | .qualifyTimerExpiry _ | .restoreHoldExpiry _ | .stabilityTimerExpiry _ => true
  | _ => false

end Sys2Proof

namespace Sys2Proof.Machine

/-- The property is kept where a detector is replaced, where one makes a transition, by a record pushed and by a reply. -/
structure KeptByDetectors (p : State → Prop) : Prop where
  setDetector : ∀ {s : State} (i : Fin 4) (d : Detector), p s → p (s.setDetector i d)
  transition : ∀ {s : State} (i : Fin 4) (d : Detector) (c : FactorSet), p s → p (s.transition i d c)
  push : ∀ {s : State} (subject : Byte) (d : Detail), p s → p (s.push subject d)
  replied : ∀ {s : State} (status : Status) (data : List Byte), p s → p (s.replied status data)

namespace KeptByDetectors

variable {p : State → Prop} {s : State}

/-! ### The moves of a detector (R27 to R38) -/

theorem startHold (hp : KeptByDetectors p) (i : Fin 4) (h : p s) : p (s.startHold i) := hp.transition _ _ _ h

theorem enterDark (hp : KeptByDetectors p) (i : Fin 4) (h : p s) : p (s.enterDark i) :=
  have darkened := hp.push _ _ (hp.transition _ _ _ h)
  iteInduction (fun _ => hp.startHold i darkened) fun _ => darkened

theorem enterServing (hp : KeptByDetectors p) (i : Fin 4) (way : ReturnWay) (h : p s) : p (s.enterServing i way) :=
  hp.push _ _ (hp.transition _ _ _ h)

theorem flap (hp : KeptByDetectors p) (i : Fin 4) (h : p s) : p (s.flap i) := hp.push _ _ (hp.transition _ _ _ h)

theorem undrain (hp : KeptByDetectors p) (i : Fin 4) (h : p s) : p (s.undrain i) :=
  iteInduction (fun _ => hp.startHold i h) fun _ => hp.transition _ _ _ h

theorem factorFailure (hp : KeptByDetectors p) (i : Fin 4) (f : FactorSet) (h : p s) : p (s.factorFailure i f) := by
  unfold State.factorFailure
  dsimp only
  split
  · exact iteInduction (fun _ => hp.enterDark i h) fun _ => hp.transition _ _ _ h
  · exact hp.setDetector _ _ h
  · exact hp.flap i h
  all_goals exact h

theorem allGood (hp : KeptByDetectors p) (i : Fin 4) (h : p s) : p (s.allGood i) := by
  unfold State.allGood
  dsimp only
  split
  · split
    · exact hp.push _ _ (hp.transition _ _ _ h)
    · exact hp.transition _ _ _ h
  · exact hp.startHold i h
  all_goals exact h

theorem setFactor (hp : KeptByDetectors p) (i : Fin 4) (f : FactorSet) (bad : Bool) (h : p s) : p (s.setFactor i f bad) :=
  iteInduction (fun _ => h) fun _ =>
    iteInduction (fun _ => hp.factorFailure i f (hp.setDetector _ _ h)) fun _ =>
      iteInduction (fun _ => hp.allGood i (hp.setDetector _ _ h)) fun _ => hp.setDetector _ _ h

/-- A line's level, or the heartbeat monitor, changes, and then a factor where it is watched (R23 to R25). -/
theorem setDetector_setFactor (hp : KeptByDetectors p) {i : Fin 4} (d : Detector) (watched : Prop) [Decidable watched]
    (f : FactorSet) (bad : Bool) (h : p s) :
    AnswersIn (.next (if watched then (s.setDetector i d).setFactor i f bad else s.setDetector i d)) p :=
  answersIn_next.mpr (iteInduction (fun _ => hp.setFactor i f bad (hp.setDetector i d h)) fun _ => hp.setDetector i d h)

/-! ### The operator's commands on a detector (R153, R156) -/

theorem exec_setUplink (hp : KeptByDetectors p) (args : UplinkArgs) (h : p s) : AnswersIn (execSetUplink args s) p := by
  refine answersIn_configure h (hp.replied _ _ h) ?_
  split
  · exact hp.replied _ _ (hp.setDetector _ _ h)
  · exact hp.replied _ _ h

theorem exec_drain (hp : KeptByDetectors p) (index : Byte) (h : p s) : AnswersIn (execDrain index s) p := by
  refine answersIn_detectorCommand h (fun _ => hp.replied _ _ h) fun i => ?_
  split
  · exact hp.replied _ _ h
  · exact hp.replied _ _ h
  all_goals exact hp.replied _ _ (hp.transition _ _ _ h)

theorem exec_undrain (hp : KeptByDetectors p) (index : Byte) (h : p s) : AnswersIn (execUndrain index s) p := by
  refine answersIn_detectorCommand h (fun _ => hp.replied _ _ h) fun i => ?_
  split
  · exact hp.replied _ _ (hp.undrain i h)
  all_goals exact hp.replied _ _ h

theorem exec_release (hp : KeptByDetectors p) (index : Byte) (h : p s) : AnswersIn (execRelease index s) p := by
  refine answersIn_detectorCommand h (fun _ => hp.replied _ _ h) fun i => ?_
  dsimp only
  split
  · exact hp.replied _ _ (hp.enterServing i _ h)
  all_goals exact hp.replied _ _ h

/-! ### Lines and detector timers (R23 to R25, R29, R31, R34) -/

theorem exec_heartbeatPulse (hp : KeptByDetectors p) (i : Fin 4) (h : p s) : AnswersIn (execHeartbeatPulse i s) p := by
  refine answersIn_next.mpr (iteInduction (fun _ => ?_) fun _ => h)
  split
  · exact hp.setFactor i _ _ (hp.setDetector _ _ h)
  · exact hp.setDetector _ _ h

theorem exec_restoreHoldExpiry (hp : KeptByDetectors p) (i : Fin 4) (h : p s) :
    AnswersIn (execRestoreHoldExpiry i s) p := by
  refine answersIn_next.mpr (iteInduction (fun _ => ?_) fun _ => h)
  split
  · exact hp.enterServing i _ h
  · exact hp.push _ _ (hp.setDetector _ _ h)

/-- Every command that configures or moves one detector keeps the property. -/
theorem afterCommand (hp : KeptByDetectors p) {c : Instr} (hc : c.movesOneDetector = true) (h : p s) :
    AnswersIn (exec c s) p := by
  cases c with
  | setUplink args => exact hp.exec_setUplink args h
  | drain index => exact hp.exec_drain index h
  | undrain index => exact hp.exec_undrain index h
  | release index => exact hp.exec_release index h
  | losChange i high => exact hp.setDetector_setFactor _ _ _ _ h
  | lockChange i high => exact hp.setDetector_setFactor _ _ _ _ h
  | heartbeatPulse i => exact hp.exec_heartbeatPulse i h
  | heartbeatWatchdogExpiry i =>
    exact answersIn_next.mpr (iteInduction (fun _ => hp.setFactor i _ _ (hp.setDetector _ _ h)) fun _ => h)
  | qualifyTimerExpiry i => exact answersIn_next.mpr (iteInduction (fun _ => hp.enterDark i h) fun _ => h)
  | restoreHoldExpiry i => exact hp.exec_restoreHoldExpiry i h
  | stabilityTimerExpiry i => exact answersIn_next.mpr (iteInduction (fun _ => hp.setDetector _ _ h) fun _ => h)
  | _ => cases hc

end KeptByDetectors

end Sys2Proof.Machine

/-! SUPPORT. The laws of the announce entries, the lane and the mode machine's timers (R44, R54, R58, R64, R69, R99), and what
each shared operation leaves of them. -/

namespace Sys2Proof.Machine

/-- An own claim makes the announce entry PENDING, with nothing sent and nobody heard, and leaves the beacon (R65). -/
theorem State.changeOwn_announcer (s : State) (i : Fin 4) (m : MapState) (c : FactorSet) :
    (s.changeOwn i m c).announcer = { s.announcer with
      entries := s.announcer.entries.set i
        { s.announcer.entries.get i with state := .pending, sends := 0, heardBy := 0#16 } } := by
  simp [changeOwn]

/-- In mode `m` the transmitter drives the lane only where the mode permits it (R44), and holds the notice that it sends
(R48, R67). -/
structure Lane.Transmits (l : Lane) (m : Mode) : Prop where
  permitted : l.tx ≠ .idle → m.transmits = true
  holds : l.tx = .arbitrating ∨ l.tx = .sending ∨ l.tx = .closing → l.captured.isSome = true

/-- In mode `m` the receiver is OFF exactly where the mode is OFFLINE (R54, R63), and the own tally slot is permitted only in
CLOSING where the mode drives the lane (R58). -/
structure Lane.Receives (l : Lane) (m : Mode) : Prop where
  off : l.rx = .off ↔ m = .offline
  slot : l.slotPermitted = true → l.rx = .closing ∧ m.transmits = true

/-- The laws of the announce entries, of both halves of the lane and of the mode machine's timers. -/
structure StationLaw (s : State) : Prop where
  announce : AnnounceLaw s
  transmitter : s.lane.Transmits s.roster.mode
  receiver : s.lane.Receives s.roster.mode
  timers : TimerLaw s

theorem stationLaw_iff (s : State) : StationLaw s ↔ AnnounceLaw s ∧ LaneLaw s ∧ TimerLaw s :=
  ⟨fun ⟨announce, ⟨permitted, holds⟩, ⟨off, slot⟩, timers⟩ => ⟨announce, ⟨permitted, holds, off, slot⟩, timers⟩,
    fun ⟨announce, ⟨permitted, holds, off, slot⟩, timers⟩ => ⟨announce, ⟨permitted, holds⟩, ⟨off, slot⟩, timers⟩⟩

namespace Lane

variable {l k : Lane} {m n : Mode}

/-- An idle transmitter is lawful in every mode. -/
theorem Transmits.of_idle (h : l.tx = .idle) : l.Transmits m := ⟨fun hne => absurd h hne, by simp [h]⟩

/-- A transmitter that holds a notice is lawful wherever the mode permits it to drive. -/
theorem Transmits.of_captured (hm : m.transmits = true) (h : l.captured.isSome = true) : l.Transmits m :=
  ⟨fun _ => hm, fun _ => h⟩

theorem Transmits.of_aborting (hm : m.transmits = true) (h : l.tx = .aborting) : l.Transmits m :=
  ⟨fun _ => hm, by simp [h]⟩

theorem Transmits.congr (h : l.Transmits m) (tx : k.tx = l.tx := by rfl) (captured : k.captured = l.captured := by rfl) :
    k.Transmits m :=
  ⟨by rw [tx]; exact h.permitted, by rw [tx, captured]; exact h.holds⟩

theorem Transmits.of_mode (h : l.Transmits m) (hn : n.transmits = true) : l.Transmits n := ⟨fun _ => hn, h.holds⟩

theorem Receives.congr (h : l.Receives m) (rx : k.rx = l.rx := by rfl) (slot : k.slotPermitted = l.slotPermitted := by rfl) :
    k.Receives m :=
  ⟨by rw [rx]; exact h.off, by rw [rx, slot]; exact h.slot⟩

/-- The receiver moves between two of its states other than OFF, and the own slot is not driven. -/
theorem Receives.moved (h : l.Receives m) (hl : l.rx ≠ .off) (hk : k.rx ≠ .off) (slot : k.slotPermitted = false) :
    k.Receives m :=
  ⟨iff_of_false hk (mt h.off.mpr hl), by simp [slot]⟩

theorem Receives.on (h : l.Receives m) (hm : m ≠ .offline) : l.rx ≠ .off := mt h.off.mp hm

/-- A receiver that is on stays lawful in every mode that drives the lane (R54, R58). -/
theorem Receives.of_mode (h : l.Receives m) (hm : m ≠ .offline) (hn : n.transmits = true) : l.Receives n :=
  ⟨iff_of_false (h.on hm) (by rintro rfl; cases hn), fun hslot => ⟨(h.slot hslot).1, hn⟩⟩

end Lane

namespace StationLaw

variable {s t : State}

/-- The laws speak of the announce entries, the beacon, the lane, the mode and its two timers alone. -/
theorem of_same (hs : StationLaw s) (announcer : t.announcer = s.announcer := by simp) (lane : t.lane = s.lane := by simp)
    (mode : t.roster.mode = s.roster.mode := by simp) (joinWindow : t.roster.joinWindow = s.roster.joinWindow := by simp)
    (cooldown : t.roster.cooldown = s.roster.cooldown := by simp) : StationLaw t where
  announce := by simp only [AnnounceLaw, announcer]; exact hs.announce
  transmitter := by rw [lane, mode]; exact hs.transmitter
  receiver := by rw [lane, mode]; exact hs.receiver
  timers := by simp only [TimerLaw, announcer, mode, joinWindow, cooldown]; exact hs.timers

theorem withLane (hs : StationLaw s) {l : Lane} (tx : l.Transmits s.roster.mode) (rx : l.Receives s.roster.mode) :
    StationLaw (s.withLane l) :=
  ⟨hs.announce, tx, rx, hs.timers⟩

theorem withFlags (hs : StationLaw s) (f : LaneFlags) : StationLaw (s.withFlags f) :=
  ⟨hs.announce, hs.transmitter.congr, hs.receiver.congr, hs.timers⟩

theorem replied (hs : StationLaw s) (status : Status) (data : List Byte) : StationLaw (s.replied status data) := hs.of_same

theorem refuse (hs : StationLaw s) (status : Status) : StationLaw (s.refuse status) := hs.replied status []

theorem done (hs : StationLaw s) : StationLaw s.done := hs.replied .done []

/-! ### Announce entries and detectors (R64, R65) -/

theorem changeOwn (hs : StationLaw s) (i : Fin 4) (m : MapState) (c : FactorSet) : StationLaw (s.changeOwn i m c) where
  announce := by
    simp only [AnnounceLaw, State.changeOwn_announcer]
    exact Table.forall_set hs.announce i (by simp [AnnounceEntry.Lawful])
  transmitter := by simpa using hs.transmitter
  receiver := by simpa using hs.receiver
  timers := by
    simp only [TimerLaw, State.changeOwn_announcer, State.changeOwn_roster]
    exact hs.timers

/-- A transition of a detector leaves the station's laws, own claim or none (R4). -/
theorem transition (hs : StationLaw s) (i : Fin 4) (d : Detector) (c : FactorSet) : StationLaw (s.transition i d c) :=
  have remade : StationLaw (s.setDetector i d) := hs.of_same
  iteInduction (fun _ => remade) fun _ => remade.changeOwn ..

theorem keptByDetectors : KeptByDetectors StationLaw where
  setDetector _ _ hs := hs.of_same
  transition i d c hs := hs.transition i d c
  push _ _ hs := hs.of_same
  replied status data hs := hs.replied status data

/-- The settlement of a carried entry leaves it CLEAN, or OUTSTANDING after its first, second or third send (R72, R73). -/
theorem settleEntry (hs : StationLaw s) (tally : StationSet) (i : Fin 4) : StationLaw (State.settleEntry tally s i) := by
  have hentry : (s.entrySettled s tally i).Lawful := by
    unfold State.entrySettled settled
    split
    · split
      · simp [AnnounceEntry.Lawful]
      · next hsends => simp [AnnounceEntry.Lawful]; omega
    · exact hs.announce i
  have hannounce : AnnounceLaw (State.settleEntry tally s i) := by
    unfold AnnounceLaw
    rw [State.settleEntry_entries]
    exact Table.forall_set hs.announce i hentry
  obtain ⟨en, ev, hframe⟩ := State.settleEntry_frame tally s i
  rw [hframe] at hannounce ⊢
  exact ⟨hannounce, hs.transmitter, hs.receiver, hs.timers⟩

/-- The capture of a notice writes sent epochs alone (R67). -/
theorem writeSentEpochs (hs : StationLaw s) : StationLaw s.writeSentEpochs := by
  have hannounce : AnnounceLaw s.writeSentEpochs := fun i => by
    rw [State.writeSentEpochs_get]
    exact iteInduction (fun _ => hs.announce i) fun _ => hs.announce i
  obtain ⟨en, hframe⟩ := s.writeSentEpochs_frame
  rw [hframe] at hannounce ⊢
  exact ⟨hannounce, hs.transmitter, hs.receiver, hs.timers⟩

/-! ### Modes (R85 to R89) -/

/-- The entry to JOINING, whatever the mode was: the lane is to fit JOINING as it stands (R69, R85). -/
theorem joined (announce : AnnounceLaw s) (tx : s.lane.Transmits .joining) (rx : s.lane.Receives .joining) (c : ModeCause) :
    StationLaw (s.enterJoining.changeMode .joining c) where
  announce := announce
  transmitter := tx.congr
  receiver := rx.congr
  timers := ⟨fun _ => rfl, fun h => (by cases h), fun h => (by cases h), fun _ => rfl⟩

/-- The entry to JOINING from a mode other than OFFLINE. -/
theorem rejoined (hs : StationLaw s) (hmode : s.roster.mode ≠ .offline) (c : ModeCause) :
    StationLaw (s.enterJoining.changeMode .joining c) :=
  joined hs.announce (hs.transmitter.of_mode rfl) (hs.receiver.of_mode hmode rfl) c

/-- The move from JOINING to ACTIVE stops the join window and leaves the beacon running (R69, R86). -/
theorem testGuard (hs : StationLaw s) : StationLaw s.testGuard := by
  refine iteInduction (fun ⟨hjoining, _⟩ => ?_) fun _ => hs
  have ⟨_, cooldown, _, _⟩ := hs.timers
  rw [hjoining] at cooldown
  exact {
    announce := hs.announce
    transmitter := hs.transmitter.of_mode rfl
    receiver := hs.receiver.of_mode (by simp [hjoining]) rfl
    timers := ⟨fun h => (by cases h), fun h => (by cases cooldown h), fun _ => rfl, fun _ => rfl⟩ }

/-- The entry to QUIET or ISOLATED: the announcer is silenced, the lane released and the join window stopped (R76, R87, R89). -/
theorem silenced (announcer : t.announcer = s.silenceAnnouncer.announcer) (tx : t.lane.tx = .idle) (rx : t.lane.rx ≠ .off)
    (slot : t.lane.slotPermitted = false) (mode : t.roster.mode ≠ .offline) (joinWindow : t.roster.joinWindow = none)
    (cooldown : t.roster.cooldown.isSome = true → t.roster.mode = .isolated) : StationLaw t where
  announce i := by
    rw [announcer]
    simp [State.silenceAnnouncer, AnnounceEntry.Lawful]
  transmitter := .of_idle tx
  receiver := ⟨iff_of_false rx mode, by simp [slot]⟩
  timers := by
    rw [TimerLaw, announcer, joinWindow]
    exact ⟨fun h => (by cases h), cooldown, fun h => (by cases h), fun h => (by cases h)⟩

theorem isolate (hs : StationLaw s) (hmode : s.roster.mode ≠ .offline) (htx : s.lane.tx = .idle) : StationLaw s.isolate :=
  silenced (s := s) rfl htx (hs.receiver.on hmode) rfl (by simp [State.isolate_eq]) rfl fun _ => rfl

theorem leave (hs : StationLaw s) (hmode : s.roster.mode ≠ .offline) : StationLaw s.leave := by
  have hon := hs.receiver.on hmode
  unfold State.leave
  dsimp only
  split
  · next hidle => exact silenced (s := s) rfl hidle hon rfl (by simp [State.changeMode_frame]) rfl fun h => (by cases h)
  · exact silenced (s := s) rfl rfl hon rfl (by simp [State.changeMode_frame]) rfl fun h => (by cases h)

/-! ### The starts (R63, R80, R85, R99) -/

theorem fullReset (code : Fin 16) (los lock : Fin 4 → Bool) (mcs held : Bool) (pending : List Instr) (pins : List PortPin)
    (drawn : Nat) : StationLaw (.fullReset code los lock mcs held pending pins drawn) where
  announce i := by simp [State.fullReset, Announcer.reset, AnnounceEntry.reset, AnnounceEntry.Lawful]
  transmitter := .of_idle rfl
  receiver := ⟨iff_of_true rfl rfl, fun h => (by cases h)⟩
  timers := ⟨fun h => (by cases h), fun h => (by cases h), fun h => (by cases h), fun h => (by cases h)⟩

theorem announce_startingValues (s : State) : AnnounceLaw s.startingValues := fun i => by
  simp [State.startingValues, AnnounceEntry.reset, AnnounceEntry.Lawful]

/-- A receiver that starts to seek is lawful in every mode but OFFLINE (R54, R63). -/
theorem receives_startSeeking (s : State) {m : Mode} (hm : m ≠ .offline) : s.startSeeking.lane.Receives m :=
  ⟨iff_of_false (by simp [State.startSeeking]) hm, fun h => (by cases h)⟩

/-- START closes the configuration lock, of which the station's laws say nothing. -/
theorem started (s : State) : StationLaw s.started := by
  have entered : StationLaw (s.startingValues.releaseLane.startSeeking.enterJoining.changeMode .joining .host) :=
    joined (s := s.startingValues.releaseLane.startSeeking) (announce_startingValues s) (.of_idle rfl)
      (receives_startSeeking _ (by simp)) .host
  exact entered.of_same rfl rfl rfl rfl rfl

/-- After RESTART the transmitter is idle, or drives the abort that ends with no outcome (R62). -/
theorem restartTransmitter_tx (s : State) : s.restartTransmitter.lane.tx = .idle ∨ s.restartTransmitter.lane.tx = .aborting := by
  unfold State.restartTransmitter
  split
  · next h => exact .inl h
  · exact .inl rfl
  · exact .inl rfl
  · exact .inr rfl
  · next h => exact .inr h

theorem restartTransmitter_announcer (s : State) : s.restartTransmitter.announcer = s.announcer := by
  unfold State.restartTransmitter
  split <;> rfl

theorem restarted (s : State) : StationLaw s.restarted := by
  refine joined ?_ ?_ (receives_startSeeking _ (by simp)) .reset
  · simp only [AnnounceLaw, State.startSeeking_announcer, restartTransmitter_announcer]
    exact announce_startingValues s
  · obtain hidle | haborting := restartTransmitter_tx s.startingValues
    · exact .of_idle hidle
    · exact .of_aborting rfl haborting

/-! ### The end of a won notice (R52, R70) -/

theorem booked (hs : StationLaw s) (n : Notice) (tally : Option StationSet) : StationLaw (s.booked n tally) := by
  obtain ⟨_, _, h⟩ := State.booked_frame s n tally
  rw [h]
  exact hs.of_same rfl rfl rfl rfl rfl

/-- The beacon timer starts again, as it may in a mode that drives the lane (R69). -/
theorem endOfWonNotice (hs : StationLaw s) (hmode : s.roster.mode.transmits = true) (n : Notice)
    (tally : Option StationSet) : StationLaw (s.endOfWonNotice n tally) := by
  have settled : StationLaw (n.carried.foldl (State.settleEntry (tally.getD 0#16)) (s.booked n tally)) :=
    List.foldlRecOn _ _ (hs.booked n tally) fun _ h i _ => h.settleEntry _ i
  have ⟨joinWindow, cooldown, _, _⟩ := hs.timers
  have hended := State.endOfWonNotice_changes s n tally
  have hannounce : AnnounceLaw (s.endOfWonNotice n tally) := by
    rw [State.endOfWonNotice_eq]
    exact settled.announce
  dsimp only at hended
  rw [hended] at hannounce ⊢
  exact ⟨hannounce, hs.transmitter, hs.receiver, joinWindow, cooldown, fun _ => hmode, fun _ => hmode⟩

theorem wonEnd (hs : StationLaw s) (hmode : s.roster.mode.transmits = true) (n : Notice) (tally : Option StationSet) :
    StationLaw (s.wonEnd n tally) := by
  have idle : StationLaw (s.withLane (laneAfterEnd s tally (ownHeard s tally))) :=
    hs.withLane (.of_idle rfl) hs.receiver.congr
  exact idle.endOfWonNotice hmode n tally

/-- The notice ends in the test of the guard or, at the eighth fault, in ISOLATED (R86, R89). -/
theorem wonNoticeEnds (hs : StationLaw s) (htx : s.lane.tx ≠ .idle) (n : Notice) (tally : Option StationSet) :
    StationLaw (s.wonNoticeEnds n tally) := by
  have hmode := hs.transmitter.permitted htx
  have ended := hs.wonEnd hmode n tally
  rw [State.wonNoticeEnds_eq]
  refine iteInduction (fun _ => ended.isolate ?_ ?_) fun _ => ended.testGuard
  · rw [State.wonEnd_mode]
    intro hoffline
    rw [hoffline] at hmode
    cases hmode
  · rw [State.wonEnd_lane]
    rfl

/-! ### Reception (R54 to R58, R94 to R96) -/

/-- The receiver leaves the notice it follows, in a state other than OFF (R54, R55). -/
theorem leaveNotice (hs : StationLaw s) (hon : s.lane.rx ≠ .off) {l : Lane} (tx : l.tx = s.lane.tx := by rfl)
    (captured : l.captured = s.lane.captured := by rfl) (rx : l.rx ≠ .off := by simp)
    (slot : l.slotPermitted = false := by rfl) : StationLaw (s.withLane l) :=
  hs.withLane (hs.transmitter.congr tx captured) (hs.receiver.moved hon rx slot)

theorem discard (hs : StationLaw s) (hon : s.lane.rx ≠ .off) : StationLaw s.discard := hs.leaveNotice hon

theorem noticeOver (hs : StationLaw s) (hon : s.lane.rx ≠ .off) : StationLaw s.noticeOver := hs.leaveNotice hon

theorem loseSlot (hs : StationLaw s) (k : Fin 16) (x : Slot) (subject : Byte) (d : Detail) :
    StationLaw (((s.setSlot k x).push subject d).rosterClaim k) := hs.of_same

theorem fallSilent (hs : StationLaw s) (k : Fin 16) : StationLaw (s.fallSilent k) := (hs.loseSlot ..).testGuard

theorem takeForeign (hs : StationLaw s) (n : RxNotice) : StationLaw (s.takeForeign n) :=
  iteInduction (fun _ => hs.of_same) fun _ => (hs.loseSlot ..).testGuard

theorem applyRecords (hs : StationLaw s) (un : Bool) (k : Fin 16) (l : List Record) :
    StationLaw (l.foldl (State.applyRecord un k) s) := by
  obtain ⟨_, _, _, h⟩ := State.applyRecords_frame un k s l
  rw [h]
  exact hs.of_same rfl rfl rfl rfl rfl

theorem takeNotice (hs : StationLaw s) (n : RxNotice) : StationLaw (s.takeNotice n) :=
  applyRecords (iteInduction (fun _ => hs.of_same) fun _ => hs.of_same) ..

/-- The receiver's decision: the notice is dropped, or taken with the own slot permitted by the mode (R56 to R58). -/
theorem receive (hs : StationLaw s) (hon : s.lane.rx ≠ .off) (n : RxNotice) : StationLaw (s.receive n) := by
  have dropped (f : LaneFlags) : StationLaw (s.withFlags f).discard := (hs.withFlags f).discard hon
  unfold State.receive
  dsimp only
  split
  · exact dropped _
  · exact dropped _
  · exact iteInduction (fun _ => dropped _) fun _ => (dropped _).takeForeign n
  · have closing (f : LaneFlags) : StationLaw ((s.withFlags f).withLane
        { (s.withFlags f).lane with rx := .closing, slotPermitted := s.roster.mode.transmits }) :=
      hs.withLane hs.transmitter.congr
        ⟨iff_of_false (by simp) (mt hs.receiver.off.mpr hon), fun hpermitted => ⟨rfl, hpermitted⟩⟩
    exact iteInduction (fun _ => closing _) fun _ => (closing _).takeNotice n

end StationLaw

end Sys2Proof.Machine

/-! SUPPORT. The station's laws after every command and every step. -/

namespace Sys2Proof.Machine

namespace StationLaw

variable {s t u : State}

/-- One of two outcomes, by a condition. -/
theorem answersIn_ite {p : Prop} [Decidable p] (h : p → StationLaw t) (h' : ¬ p → StationLaw u) :
    AnswersIn (.next (if p then t else u)) StationLaw :=
  answersIn_next.mpr (iteInduction h h')

/-! ### The commands of the management port -/

theorem exec_unknownCommand (hs : StationLaw s) (code : Byte) : AnswersIn (execUnknownCommand code s) StationLaw :=
  answersIn_portCommand hs (hs.refuse _)

theorem exec_setStation (hs : StationLaw s) (fingerprint : Half) (period silence : Byte) :
    AnswersIn (execSetStation fingerprint period silence s) StationLaw := by
  refine answersIn_configure hs (hs.refuse _) ?_
  split
  · exact hs.of_same
  · exact hs.refuse _

theorem defineGroup (hs : StationLaw s) (g : Fin 256) (revert : RevertMode) (tiers : List (List Byte)) :
    StationLaw (s.defineGroup g revert tiers) := by
  unfold State.defineGroup
  split
  · exact hs.refuse _
  · exact iteInduction (fun _ => iteInduction (fun _ => hs.refuse _) fun _ => hs.of_same) fun _ => hs.refuse _

theorem exec_writeGroup (hs : StationLaw s) (args : List Byte) : AnswersIn (execWriteGroup args s) StationLaw := by
  refine answersIn_configure hs (hs.refuse _) ?_
  split
  · exact hs.of_same
  · exact hs.refuse _
  · exact hs.defineGroup ..

theorem exec_clearGroup (hs : StationLaw s) (group : Byte) : AnswersIn (execClearGroup group s) StationLaw :=
  answersIn_configure hs (hs.refuse _) hs.of_same

theorem exec_start (hs : StationLaw s) : AnswersIn (execStart s) StationLaw :=
  answersIn_portCommand hs (iteInduction (fun _ => (started s).done) fun _ => hs.refuse _)

theorem exec_restart (hs : StationLaw s) : AnswersIn (execRestart s) StationLaw :=
  answersIn_portCommand hs (iteInduction (fun _ => hs.refuse _) fun _ => (restarted s).done)

theorem exec_resteer (hs : StationLaw s) (group : Byte) : AnswersIn (execResteer group s) StationLaw :=
  answersIn_portCommand hs
    (iteInduction (fun _ => hs.refuse _) fun _ => iteInduction (fun _ => hs.refuse _) fun _ => hs.of_same)

theorem exec_leave (hs : StationLaw s) : AnswersIn (execLeave s) StationLaw := by
  refine answersIn_portCommand hs ?_
  split
  · exact hs.refuse _
  · exact hs.done
  all_goals
    next h => exact (hs.leave (by simp [h])).done

theorem exec_rejoin (hs : StationLaw s) : AnswersIn (execRejoin s) StationLaw := by
  refine answersIn_portCommand hs ?_
  split
  · next h => exact (hs.rejoined (by simp [h]) _).done
  · next h => exact (hs.rejoined (by simp [h]) _).done
  all_goals exact hs.refuse _

theorem exec_setEventReporting (hs : StationLaw s) (trigger timeout : Byte) :
    AnswersIn (execSetEventReporting trigger timeout s) StationLaw := by
  refine answersIn_portCommand hs ?_
  split
  · exact hs.of_same
  · exact hs.refuse _

theorem exec_readStatus (hs : StationLaw s) : AnswersIn (execReadStatus s) StationLaw :=
  answersIn_portCommand hs ((hs.withFlags .clear).of_same rfl rfl rfl rfl rfl)

theorem exec_readEvents (hs : StationLaw s) (n : Byte) : AnswersIn (execReadEvents n s) StationLaw :=
  answersIn_portCommand hs (iteInduction (fun _ => hs.of_same) fun _ => hs.refuse _)

theorem exec_readMap (hs : StationLaw s) (which : Byte) : AnswersIn (execReadMap which s) StationLaw := by
  refine answersIn_portCommand hs ?_
  split
  · exact hs.of_same rfl rfl rfl rfl rfl
  · exact iteInduction (fun _ => hs.of_same) fun _ => hs.refuse _

theorem exec_readRoster (hs : StationLaw s) : AnswersIn (execReadRoster s) StationLaw :=
  answersIn_portCommand hs (hs.replied ..)

theorem exec_readGroup (hs : StationLaw s) (group : Byte) : AnswersIn (execReadGroup group s) StationLaw :=
  answersIn_portCommand hs (hs.replied ..)

theorem exec_probe (hs : StationLaw s) (group : Byte) (hash : Half) : AnswersIn (execProbe group hash s) StationLaw :=
  answersIn_portCommand hs (hs.replied ..)

/-! ### The lane (R45 to R56) -/

/-- A quiet gap ends where the receiver follows no notice, so no own slot is permitted then (R45, R58). -/
theorem exec_quietGapEnd (hs : StationLaw s) : AnswersIn (execQuietGapEnd s) StationLaw := by
  refine answersIn_ite (fun _ => hs) fun hends => ?_
  have ⟨_, hgap⟩ : s.rstHeld = false ∧ s.gapCanEnd = true := by simpa using hends
  obtain ⟨-, -, hclosing⟩ := (State.gapCanEnd_iff s).mp hgap
  refine hs.withLane hs.transmitter.congr ⟨?_, fun hslot => absurd (hs.receiver.slot hslot).1 hclosing⟩
  rw [← hs.receiver.off]
  cases s.lane.rx <;> simp

/-- A dominant level moves the receiver from READY alone, where no own slot is permitted (R54, R58). -/
theorem seeDominant (hs : StationLaw s) : StationLaw s.seeDominant := by
  refine hs.withLane hs.transmitter.congr ?_
  by_cases hready : s.lane.rx = .ready
  · have hslot : s.lane.slotPermitted = false :=
      Bool.eq_false_iff.mpr fun hpermitted => by cases hready.symm.trans (hs.receiver.slot hpermitted).1
    exact hs.receiver.moved (by simp [hready]) (by simp [hready]) hslot
  · exact hs.receiver.congr (if_neg hready)

theorem exec_noticeStartOffer (hs : StationLaw s) : AnswersIn (execNoticeStartOffer s) StationLaw := by
  refine answersIn_ite (fun hoffer => ?_) fun _ => hs
  obtain ⟨-, hmode, -⟩ := (State.offersStart_iff s).mp hoffer
  have dominant := hs.writeSentEpochs.seeDominant
  refine dominant.withLane (.of_captured ?_ rfl) dominant.receiver.congr
  simpa [State.transmits_iff] using hmode

theorem exec_arbitrationLost (hs : StationLaw s) : AnswersIn (execArbitrationLost s) StationLaw :=
  answersIn_ite (fun _ => hs.withLane (.of_idle rfl) hs.receiver.congr) fun _ => hs

theorem exec_arbitrationWon (hs : StationLaw s) : AnswersIn (execArbitrationWon s) StationLaw :=
  answersIn_ite (fun htx => hs.withLane
    (.of_captured (hs.transmitter.permitted (by simp [htx])) (hs.transmitter.holds (.inl htx))) hs.receiver.congr) fun _ => hs

theorem exec_txMismatch (hs : StationLaw s) : AnswersIn (execTxMismatch s) StationLaw := by
  refine answersIn_next.mpr ?_
  split
  case h_1 htx | h_2 htx =>
    exact hs.withLane (.of_aborting (hs.transmitter.permitted (by simp [htx])) rfl) hs.receiver.congr
  all_goals exact hs

theorem exec_abortPatternEnd (hs : StationLaw s) : AnswersIn (execAbortPatternEnd s) StationLaw := by
  refine answersIn_ite (fun haborting => ?_) fun _ => hs
  split
  · exact hs.wonNoticeEnds (by simp [haborting]) _ _
  · exact hs.withLane (.of_idle rfl) hs.receiver.congr

theorem exec_noticeCompleted (hs : StationLaw s) (slots : StationSet) :
    AnswersIn (execNoticeCompleted slots s) StationLaw := by
  refine answersIn_next.mpr ?_
  split
  · next hclosing _ => exact hs.wonNoticeEnds (by simp [hclosing]) _ _
  · exact hs

/-- A transmitter that has sent its notice goes to CLOSING with it (R50). -/
theorem decided (hs : StationLaw s) : StationLaw s.decided := by
  refine hs.withLane ?_ hs.receiver.congr
  by_cases hsending : s.lane.tx = .sending
  · exact .of_captured (hs.transmitter.permitted (by simp [hsending])) (hs.transmitter.holds (.inr (.inl hsending)))
  · exact hs.transmitter.congr (if_neg hsending)

theorem exec_noticeDecision (hs : StationLaw s) (n : RxNotice) : AnswersIn (exec (.noticeDecision n) s) StationLaw := by
  rw [State.exec_noticeDecision]
  refine answersIn_ite (fun hreceiving => hs.decided.receive ?_ n) fun _ => hs.decided
  simp [State.decided, hreceiving]

theorem exec_receiveAbort (hs : StationLaw s) : AnswersIn (execReceiveAbort s) StationLaw := by
  refine answersIn_next.mpr ?_
  split
  · next h => exact (hs.withFlags _).discard (by simp [h])
  · next h => exact hs.noticeOver (by simp [h])
  all_goals exact hs

theorem exec_receiveTruncation (hs : StationLaw s) : AnswersIn (execReceiveTruncation s) StationLaw := by
  refine answersIn_next.mpr ?_
  split
  · next h => exact (hs.withFlags _).discard (by simp [h])
  · next h => exact hs.noticeOver (by simp [h])
  all_goals exact hs

theorem exec_badStartMark (hs : StationLaw s) : AnswersIn (execBadStartMark s) StationLaw :=
  answersIn_ite (fun h => (hs.withFlags _).discard (by simp [h])) fun _ => hs

/-! ### Timers, the Sweep Engine and requests -/

theorem exec_silenceTimerExpiry (hs : StationLaw s) (k : Fin 16) : AnswersIn (execSilenceTimerExpiry k s) StationLaw := by
  have lost : StationLaw (if (s.roster.slots.get k).silence.isSome then s.fallSilent k else s) :=
    iteInduction (fun _ => hs.fallSilent k) fun _ => hs
  refine answersIn_next.mpr ?_
  split
  · exact lost
  · exact lost
  · exact lost
  all_goals exact hs

/-- The beacon falls due in a mode in which its timer runs (R69). -/
theorem exec_beaconTimerExpiry (hs : StationLaw s) : AnswersIn (execBeaconTimerExpiry s) StationLaw := by
  have ⟨joinWindow, cooldown, beaconTimer, _⟩ := hs.timers
  refine answersIn_ite (fun hruns => ?_) fun _ => hs
  exact ⟨hs.announce, hs.transmitter, hs.receiver, joinWindow, cooldown, fun h => (by cases h), fun _ => beaconTimer hruns⟩

theorem exec_joinWindowExpiry (hs : StationLaw s) : AnswersIn (execJoinWindowExpiry s) StationLaw := by
  have ⟨_, cooldown, beaconTimer, beaconDue⟩ := hs.timers
  refine answersIn_ite (fun _ => testGuard ?_) fun _ => hs
  exact ⟨hs.announce, hs.transmitter, hs.receiver, fun h => (by cases h), cooldown, beaconTimer, beaconDue⟩

theorem exec_cooldownExpiry (hs : StationLaw s) : AnswersIn (execCooldownExpiry s) StationLaw :=
  answersIn_ite (fun ⟨hisolated, _⟩ => hs.rejoined (by simp [hisolated]) _) fun _ => hs

theorem exec_evaluationCommit (hs : StationLaw s) : AnswersIn (execEvaluationCommit s) StationLaw := by
  refine answersIn_next.mpr ?_
  split
  · exact hs
  · exact hs.of_same
  · exact hs.of_same

theorem request (hs : StationLaw s) (r : Request) : StationLaw (s.request r) :=
  iteInduction (fun _ => hs.of_same) fun _ => hs

theorem exec_lookupService (hs : StationLaw s) : AnswersIn (execLookupService s) StationLaw := by
  refine answersIn_next.mpr ?_
  split
  · exact hs.of_same
  all_goals exact hs

theorem take (hs : StationLaw s) : StationLaw s.take := by
  refine iteInduction (fun _ => hs.of_same) fun _ => ?_
  split <;> exact hs.of_same

theorem exec_takeService (hs : StationLaw s) : AnswersIn (execTakeService s) StationLaw := by
  refine answersIn_next.mpr ?_
  split
  · exact hs.take
  all_goals exact hs

/-! ### Every command and every step -/

/-- Every command keeps the station's laws. -/
theorem afterCommand (c : Instr) (hs : StationLaw s) : AnswersIn (exec c s) StationLaw := by
  cases c with
  | fullReset straps => exact answersIn_next.mpr (fullReset ..)
  | rstRelease => exact answersIn_ite (fun _ => hs.of_same) fun _ => hs
  | frameDiscard => exact answersIn_portCommand hs hs.of_same
  | unknownCommand code => exact hs.exec_unknownCommand code
  | setStation fingerprint period silence => exact hs.exec_setStation ..
  | writeGroup args => exact hs.exec_writeGroup args
  | clearGroup group => exact hs.exec_clearGroup group
  | start => exact hs.exec_start
  | restart => exact hs.exec_restart
  | resteer group => exact hs.exec_resteer group
  | leave => exact hs.exec_leave
  | rejoin => exact hs.exec_rejoin
  | setEventReporting trigger timeout => exact hs.exec_setEventReporting ..
  | readStatus => exact hs.exec_readStatus
  | readEvents n => exact hs.exec_readEvents n
  | readMap which => exact hs.exec_readMap which
  | readRoster => exact hs.exec_readRoster
  | readGroup group => exact hs.exec_readGroup group
  | probe group hash => exact hs.exec_probe group hash
  | lookupRequest word => exact answersIn_next.mpr (hs.request _)
  | takeRequest => exact answersIn_next.mpr (hs.request _)
  | lookupService => exact hs.exec_lookupService
  | takeService => exact hs.exec_takeService
  | quietGapEnd => exact hs.exec_quietGapEnd
  | noticeStartOffer => exact hs.exec_noticeStartOffer
  | arbitrationLost => exact hs.exec_arbitrationLost
  | txMismatch => exact hs.exec_txMismatch
  | abortPatternEnd => exact hs.exec_abortPatternEnd
  | noticeCompleted slots => exact hs.exec_noticeCompleted slots
  | noticeDecision n => exact hs.exec_noticeDecision n
  | receiveAbort => exact hs.exec_receiveAbort
  | receiveTruncation => exact hs.exec_receiveTruncation
  | badStartMark => exact hs.exec_badStartMark
  | silenceTimerExpiry k => exact hs.exec_silenceTimerExpiry k
  | beaconTimerExpiry => exact hs.exec_beaconTimerExpiry
  | joinWindowExpiry => exact hs.exec_joinWindowExpiry
  | cooldownExpiry => exact hs.exec_cooldownExpiry
  | evaluationCommit => exact hs.exec_evaluationCommit
  | idleTimerExpiry => exact answersIn_ite (fun _ => hs.of_same) fun _ => hs
  | laneDominantLevel => exact answersIn_ite (fun _ => hs) fun _ => hs.seeDominant
  | arbitrationWon => exact hs.exec_arbitrationWon
  | receivedNoticeEnd => exact answersIn_ite (fun h => hs.noticeOver (by simp [h])) fun _ => hs
  | _ => exact keptByDetectors.afterCommand rfl hs

theorem tick (hs : StationLaw s) : StationLaw s.tick := iteInduction (fun _ => hs) fun _ => hs.of_same rfl rfl rfl rfl rfl

theorem afterStep (hs : StationLaw s) : AnswersIn (step s) StationLaw :=
  step_keeps (fun _ _ _ _ h => h.of_same rfl rfl rfl rfl rfl) (fun _ _ h => h.of_same) (fun _ h => h.tick)
    (fun c _ h => h.afterCommand c) hs

end StationLaw

end Sys2Proof.Machine

/-! SUPPORT. The join guard as a statement about the slots, and the join window's expiry as a test of it (R85, R86). -/

namespace Sys2Proof.Machine.State

/-- The join guard holds where every peer heard and not deaf has joined-me (R86). -/
theorem joinGuard_iff (s : State) :
    s.joinGuard = true ↔
      ∀ k : Fin 16, (s.roster.slots.get k).state = .joining ∨ (s.roster.slots.get k).state = .present →
        (s.roster.slots.get k).deaf = true ∨ (s.roster.slots.get k).joinedMe = true := by
  simp only [joinGuard, List.all_eq_true, mem_codes, forall_true_left, Bool.or_eq_true, Bool.not_eq_true', or_assoc,
    ← hearable_iff]
  simp only [← Bool.not_eq_true, imp_iff_not_or]

/-- The station with its join window elapsed, before the guard is tested (R85). -/
def windowEnded (s : State) : State := { s with roster := { s.roster with joinWindow := none, windowElapsed := true } }

theorem exec_joinWindowExpiry {s : State} (hmode : s.roster.mode = .joining) (hruns : s.roster.joinWindow.isSome = true) :
    exec .joinWindowExpiry s = .next s.windowEnded.testGuard := by
  rw [exec, execJoinWindowExpiry, if_pos ⟨hmode, hruns⟩]
  rfl

theorem windowEnded_joinGuard (s : State) : s.windowEnded.joinGuard = s.joinGuard := joinGuard_congr rfl

end Sys2Proof.Machine.State

/-! PROOF. What every step keeps of the announce entries, the lane and the timers, and the expiries of the station's timers. -/

namespace Sys2Proof.Announcements

open Sys2Proof.Machine

/-- Settles O59: every command, every edge that moves the frame and a tick keep the laws of the announce entries, of the two
halves of the lane and of the timers together. -/
theorem stepKeepsAnnouncerLaneAndTimers : Obligations.StepKeepsAnnouncerLaneAndTimers := by
  unfold Obligations.StepKeepsAnnouncerLaneAndTimers
  intro s s' hstep hs
  exact (stationLaw_iff s').mp (((stationLaw_iff s).mpr hs).afterStep.of_eq_next hstep)

/-- Settles O48: each expiry by its definition, and the join window's by the guard's test with the window elapsed. -/
theorem stationTimersExpire : Obligations.StationTimersExpire := by
  unfold Obligations.StationTimersExpire
  intro s
  refine ⟨fun hruns => ?_, fun hruns => ⟨?_, fun hrst => ?_⟩, fun hmode hruns => ?_⟩
  · rw [exec, execBeaconTimerExpiry, if_pos hruns]
  · rw [exec, execIdleTimerExpiry, if_pos hruns]
    rfl
  · simp [State.irq, hrst]
  · intro guard
    have hguard : s.windowEnded.joinGuard = true ↔ guard := by
      rw [State.windowEnded_joinGuard]
      exact State.joinGuard_iff s
    rw [State.exec_joinWindowExpiry hmode hruns, State.testGuard]
    refine ⟨fun hnot => ?_, fun hholds => ?_⟩
    · rw [if_neg fun h => hnot (hguard.mp h.2.2)]
      rfl
    · rw [if_pos ⟨hmode, rfl, hguard.mpr hholds⟩, ← hmode]
      rfl

end Sys2Proof.Announcements

/-! SUPPORT. The detectors that START and RESTART make, as the manual gives them (R42, R43), the station that both begin with
(R20, R63, R80, R85, R100, R120, R136, R147), and RESTART's transmitter (R62). -/

namespace Sys2Proof.FactorSet

theorem has_and (a b f : FactorSet) : (a &&& b).has f = (a.has f && b.has f) := by
  revert a b f
  decide

end Sys2Proof.FactorSet

namespace Sys2Proof.Machine

/-! ### A port command taken, and the entry to JOINING -/

/-- A port command has its effect, RST released (R149). -/
theorem portCommand_of_released {s : State} (hrst : s.rstHeld = false) (effect : State → State) :
    portCommand s effect = .next (effect s) := by
  simp only [portCommand, hrst, Bool.false_eq_true, if_false]

namespace State

/-- Every entry to JOINING, whatever leads to it (R85, R88, R89). -/
theorem enterJoining_changeMode (s : State) (c : ModeCause) : s.enterJoining.changeMode .joining c = joiningEntered s c := rfl

end State

/-! ### The detectors begun (R42, R43) -/

namespace Detector

/-- The factors that START and RESTART find failing, watched or not: the two lines by their levels, and HB (R42). -/
def failingAtStart (d : Detector) : FactorSet :=
  (if d.losLine then FactorSet.los else 0#3) ||| (if d.lockLine then 0#3 else FactorSet.lock) ||| FactorSet.hb

theorem failingAtStart_has (d : Detector) :
    d.failingAtStart.has FactorSet.los = d.losLine ∧ d.failingAtStart.has FactorSet.lock = !d.lockLine ∧
      d.failingAtStart.has FactorSet.hb = true := by
  unfold failingAtStart
  cases d.losLine <;> cases d.lockLine <;> decide

end Detector

namespace State

variable (s : State)

theorem startedDetector_of_enabled {d : Detector} (h : d.config.enabled = true) :
    s.startedDetector d = { Detector.reset d.losLine d.lockLine with
      config := d.config
      state := .dark
      failing := d.config.mask &&& d.failingAtStart
      watchdog := if d.config.mask.has FactorSet.hb then some (s.ticks + 200 * d.config.hbMax) else none } := by
  simp only [startedDetector, h, if_true, after, Config.heartbeatUnitTicks, Config.ticksPerUs, Nat.mul_comm d.config.hbMax]
  rfl

/-- An enabled detector goes at once to RECOVERING where its watched factors are all good, and else is DARK (R42, R43). -/
theorem settledDetector_of_enabled {d : Detector} (h : d.config.enabled = true) :
    s.settledDetector (s.startedDetector d) = {
      losLine := d.losLine
      lockLine := d.lockLine
      config := d.config
      state := if d.config.mask &&& d.failingAtStart = 0#3 then .recovering else .dark
      awaiting := false
      failing := d.config.mask &&& d.failingAtStart
      lastPulse := none
      watchdog := if d.config.mask.has FactorSet.hb then some (s.ticks + 200 * d.config.hbMax) else none
      qualify := none
      suspect := none
      hold := if d.config.mask &&& d.failingAtStart = 0#3 then some (s.ticks + 2500000 * d.config.holdBase) else none
      level := 0
      stability := none } := by
  rw [startedDetector_of_enabled s h, settledDetector]
  by_cases hgood : d.config.mask &&& d.failingAtStart = 0#3
  · simp [hgood, Detector.reset, after, UplinkConfig.holdTicks, UplinkConfig.baseTicks, Config.holdUnitTicks, Config.ticksPerUs]
  · simp [hgood, Detector.reset]

theorem settledDetector_of_disabled {d : Detector} (h : d.config.enabled = false) :
    s.settledDetector (s.startedDetector d) = { Detector.reset d.losLine d.lockLine with config := d.config } := by
  rw [startedDetector_disabled s h]
  exact if_neg fun h => by cases h.1

theorem startedFrom_settledDetector (d : Detector) : StartedFrom s.ticks d (s.settledDetector (s.startedDetector d)) := by
  cases henabled : d.config.enabled with
  | false =>
    rw [settledDetector_of_disabled s henabled]
    exact ⟨rfl, rfl, rfl, rfl, rfl, rfl, rfl, rfl, rfl, fun _ => ⟨rfl, rfl, rfl, rfl⟩, fun h => by simp [henabled] at h⟩
  | true =>
    obtain ⟨hlos, hlock, hhb⟩ := d.failingAtStart_has
    rw [settledDetector_of_enabled s henabled]
    refine ⟨rfl, rfl, rfl, rfl, rfl, rfl, rfl, rfl, rfl, fun h => by simp [henabled] at h, fun _ => ⟨?_, ?_, ?_, rfl,
      fun hfailing => ⟨if_neg hfailing, if_neg hfailing⟩, fun hgood => ⟨if_pos hgood, if_pos hgood⟩⟩⟩
    · rw [FactorSet.has_and, hlos]
    · rw [FactorSet.has_and, hlock]
    · rw [FactorSet.has_and, hhb, Bool.and_true]

/-! ### The station begun (R84, R85, R90) -/

/-- The station as START and RESTART leave it: every block at its starting values and JOINING entered, with what the two commands
differ in, the lane `la` before the receiver seeks, the cause and the port. -/
def begun (la : Lane) (c : ModeCause) (p : Port) : State :=
  { s with
    map := .tabulate s.startedEntry
    detectors := .tabulate fun i => s.settledDetector (s.startedDetector (s.detectors.get i))
    lane := { la with rx := .seeking, slotPermitted := false, gapEnd := (s.withLane la).gapFromNow, faults := 0 }
    announcer := ⟨.fill .reset, none, true⟩
    roster := ⟨Roster.resetSlots s.station.code, .joining, s.after s.silenceTicks, false, none⟩
    groups := .tabulate fun g => (s.groups.get g).started
    engine := { Engine.reset with index := s.engine.index }
    invalidation := ⟨[], true⟩
    port := p
    events := (s.push (idByte s.station.code) (.modeChange s.roster.mode .joining c)).events }

variable (la : Lane) (c : ModeCause) (p : Port)

/-- The starting values, then the receiver seeking, then the entry to JOINING, begin the station. -/
theorem joiningEntered_startingValues :
    joiningEntered (s.startingValues.withLane la).startSeeking c = s.begun la c s.port := by
  have hslots : (.tabulate fun k => { (Roster.resetSlots s.station.code).get k with joinedMe := false } : Table Slot 16) =
      Roster.resetSlots s.station.code := Table.ext_get fun k => by simp [Roster.resetSlots, Slot.reset]
  simp only [joiningEntered, startSeeking, startingValues, withLane, begun, push, withEvents, hslots, now, silenceTicks, after,
    gapFromNow]

/-- A lane that holds no notice and no tally set and keeps its flags is all that the starting values ask of what differs. -/
theorem startingValues_begun {la : Lane} (captured : la.captured = none) (tally : la.tally = none)
    (flags : la.flags = s.lane.flags) : StartingValues s (s.begun la c p) := by
  refine ⟨⟨rfl, rfl, rfl, rfl, rfl, rfl, rfl⟩, fun u => ?_, fun i => ?_, ⟨rfl, captured, tally, rfl, flags, rfl⟩,
    ⟨fun i => Table.get_fill _ i, rfl, rfl⟩, ⟨fun k => ?_, rfl, rfl, rfl, rfl⟩, fun g => Table.get_tabulate _ g,
    ⟨fun u => Table.get_fill _ u, rfl, rfl, fun g => Table.get_fill _ g, rfl⟩, rfl⟩
  · simp only [begun, Table.get_tabulate, startedEntry, owns, beq_iff_eq]
  · simp only [begun, Table.get_tabulate]
    exact s.startedFrom_settledDetector _
  · simp [begun, Roster.resetSlots, Slot.reset]

variable {s}

/-- START begins the station with the lane released and the lock closed (R63, R84, R151). -/
theorem exec_start_eq (hrst : s.rstHeld = false) (hmode : s.roster.mode = .offline) :
    exec .start s = .next (s.begun s.releaseLane.lane .host ⟨true, .taken [0#8] 0⟩) := by
  rw [exec, execStart, portCommand_of_released hrst, if_pos hmode, started, enterJoining_changeMode]
  have hreleased : s.startingValues.releaseLane = s.startingValues.withLane s.releaseLane.lane := rfl
  rw [hreleased, joiningEntered_startingValues]
  rfl

/-! ### RESTART's transmitter (R62) -/

variable (s)

/-- RESTART's transmitter drops the notice with its tally set, and leaves the flags. -/
theorem restartTransmitter_drops :
    s.restartTransmitter.lane.captured = none ∧ s.restartTransmitter.lane.tally = none ∧
      s.restartTransmitter.lane.flags = s.lane.flags := by
  unfold restartTransmitter
  split <;> exact ⟨rfl, rfl, rfl⟩

theorem restartTransmitter_lane_tx :
    s.restartTransmitter.lane.tx = if s.lane.tx = .sending ∨ s.lane.tx = .aborting then .aborting else .idle := by
  unfold restartTransmitter
  split
  all_goals
    next h => simp [h, releaseLane, withLane]

theorem restartTransmitter_of_sending (h : s.lane.tx = .sending) :
    s.restartTransmitter.lane.abortEnd = some (s.ticks + 8) := by
  simp only [restartTransmitter, h]
  rfl

theorem restartTransmitter_of_aborting (h : s.lane.tx = .aborting) :
    s.restartTransmitter.lane.abortEnd = s.lane.abortEnd := by
  simp only [restartTransmitter, h]
  rfl

/-- The starting values leave the lane, which alone the transmitter reads. -/
theorem restartTransmitter_startingValues :
    s.startingValues.restartTransmitter = s.startingValues.withLane s.restartTransmitter.lane := by
  have hlane : s.startingValues.lane = s.lane := rfl
  unfold restartTransmitter
  rw [hlane]
  cases s.lane.tx <;> rfl

variable {s}

/-- RESTART begins the station with its own transmitter and leaves the lock as it is (R62, R90). -/
theorem exec_restart_eq (hrst : s.rstHeld = false) (hmode : s.roster.mode ≠ .offline) :
    exec .restart s = .next (s.begun s.restartTransmitter.lane .reset ⟨s.port.locked, .taken [0#8] 0⟩) := by
  rw [exec, execRestart, portCommand_of_released hrst, if_neg hmode, restarted, restartTransmitter_startingValues,
    enterJoining_changeMode, joiningEntered_startingValues]
  rfl

end State

end Sys2Proof.Machine

/-! SUPPORT. LEAVE by the block that it changes (R58, R61, R76, R87), and the expiry of a peer's silence timer (R96). -/

namespace Sys2Proof.Machine.State

variable (s : State)

theorem silenced_silenceAnnouncer : Silenced s.announcer s.silenceAnnouncer.announcer :=
  ⟨fun i => Table.get_tabulate _ i, rfl, rfl⟩

/-- A transmitter that is not idle lets go of the lane, and the own tally slot is not driven (R58, R61). -/
theorem leave_eq :
    s.leave = { s with
      lane := if s.lane.tx = .idle then { s.lane with slotPermitted := false } else { s.lane with
        tx := .idle, captured := none, tally := none, abortEnd := none, slotPermitted := false, gapEnd := recounted s }
      announcer := s.silenceAnnouncer.announcer
      roster := { s.roster with mode := .quiet, joinWindow := none, cooldown := none }
      events := (s.push (idByte s.station.code) (.modeChange s.roster.mode .quiet .host)).events } := by
  unfold leave
  dsimp only
  split <;> rfl

/-- The three states in which a silence timer runs fall silent alike (R96). -/
theorem exec_silenceTimerExpiry {s : State} {k : Fin 16}
    (hstate : (s.roster.slots.get k).state = .joining ∨ (s.roster.slots.get k).state = .present ∨
      (s.roster.slots.get k).state = .excluded) (hruns : (s.roster.slots.get k).silence.isSome = true) :
    exec (.silenceTimerExpiry k) s = .next (s.fallSilent k) := by
  obtain hstate | hstate | hstate := hstate <;> simp only [exec, execSilenceTimerExpiry, hstate, hruns, if_true]

end Sys2Proof.Machine.State

/-! PROOF. START, RESTART, LEAVE, REJOIN and the end of the cool-down, and a peer's silence. -/

namespace Sys2Proof.StationModes

open Sys2Proof.Machine

/-! ### The starts -/

/-- Settles O13: START begins the station with the lane as a release leaves it. -/
theorem startTakesTheStationToJoining : Obligations.StartTakesTheStationToJoining := by
  unfold Obligations.StartTakesTheStationToJoining
  intro s hrst hmode
  refine ⟨_, State.exec_start_eq hrst hmode, State.startingValues_begun s _ _ rfl rfl rfl, rfl, rfl, rfl, ?_⟩
  rw [State.begun, hmode]

/-- Settles O14: RESTART begins the station with the lane as its transmitter, taken by its state, leaves it. -/
theorem restartStartsTheStationAfresh : Obligations.RestartStartsTheStationAfresh := by
  unfold Obligations.RestartStartsTheStationAfresh
  intro s hrst hmode
  obtain ⟨hcaptured, htally, hflags⟩ := s.restartTransmitter_drops
  refine ⟨_, State.exec_restart_eq hrst hmode, State.startingValues_begun s _ _ hcaptured htally hflags, ?_,
    s.restartTransmitter_of_sending, s.restartTransmitter_of_aborting, rfl, rfl⟩
  rw [State.begun, State.restartTransmitter_lane_tx]
  cases s.lane.tx <;> rfl

/-! ### LEAVE, and the entry to JOINING -/

/-- Settles O18: LEAVE by the mode, QUIET or one that it leaves. -/
theorem leaveReleasesTheLane : Obligations.LeaveReleasesTheLane := by
  unfold Obligations.LeaveReleasesTheLane
  intro s hrst
  rw [exec, execLeave, portCommand_of_released hrst]
  refine ⟨fun hquiet => ?_, fun hmode => ⟨s.leave.done, ?_, ?_, ?_, ?_⟩⟩
  · rw [hquiet]
    rfl
  · obtain hmode | hmode | hmode := hmode <;> rw [hmode]
  · rw [State.done_lane, State.leave_eq]
  · rw [State.done_announcer, State.leave_eq]
    exact s.silenced_silenceAnnouncer
  · rw [State.leave_eq]
    rfl

/-- Settles O19: each enters JOINING in the modes that have it. -/
theorem rejoinAndCooldownEnterJoining : Obligations.RejoinAndCooldownEnterJoining := by
  unfold Obligations.RejoinAndCooldownEnterJoining
  intro s
  refine ⟨fun hrst hmode => ?_, fun hmode hruns => ?_⟩
  · rw [exec, execRejoin, portCommand_of_released hrst, State.enterJoining_changeMode]
    obtain hmode | hmode := hmode <;> rw [hmode] <;> rfl
  · rw [exec, execCooldownExpiry, if_pos ⟨hmode, hruns⟩, State.enterJoining_changeMode]

/-! ### The roster -/

/-- Settles O46: the peer falls silent, by `State.fallSilent`. -/
theorem silenceMovesTheSlotToSilent : Obligations.SilenceMovesTheSlotToSilent := by
  unfold Obligations.SilenceMovesTheSlotToSilent
  intro s k
  dsimp only
  intro hstate hruns
  rw [State.exec_silenceTimerExpiry hstate hruns]
  rfl

end Sys2Proof.StationModes

/-! SUPPORT. One evaluation by its steps: the tiers it can use, the one it goes to, and the record it gives (R103, R106, R107). -/

namespace Sys2Proof.Machine

theorem Tier.forall_iff {p : Tier → Prop} : (∀ t, p t) ↔ p .t1 ∧ p .t2 ∧ p .t3 :=
  ⟨fun h => ⟨h _, h _, h _⟩, fun ⟨h1, h2, h3⟩ t => by cases t <;> assumption⟩

namespace Group

variable {g : Group} {reading : List (Fin 64)} {resteer : Bool} {t best : Tier}

/-! ### The best tier and the target tier -/

theorem tierUsable_iff : g.tierUsable reading t = true ↔ ∃ m ∈ g.members t, m ∈ reading := by
  simp [tierUsable]

theorem tierUsable_eq_false_iff : g.tierUsable reading t = false ↔ ¬ ∃ m ∈ g.members t, m ∈ reading := by
  rw [← tierUsable_iff, Bool.not_eq_true]

theorem bestTier_eq_none_iff : g.bestTier reading = none ↔ ∀ t, g.tierUsable reading t = false := by
  simp [bestTier, Tier.forall_iff]

/-- The best tier is usable, and no tier before it is (R106). -/
theorem bestTier_eq_some_iff : g.bestTier reading = some best ↔
    g.tierUsable reading best = true ∧ ∀ t : Tier, t.place < best.place → g.tierUsable reading t = false := by
  rw [bestTier, List.find?_eq_some_iff_append, Tier.forall_iff]
  cases best <;> simp [Tier.place, List.cons_eq_append_iff]

/-- A STICKY group stays on a tier that keeps a usable member, where the evaluation is no resteer (R107). -/
theorem targetTier_eq_current (hcurrent : g.current = some t) (hsticky : g.revert = .sticky)
    (husable : g.tierUsable reading t = true) : g.targetTier reading false best = t := by
  simp [targetTier, hcurrent, hsticky, husable]

/-- Every other group goes to its best tier, and so does every resteer (R107, R114). -/
theorem targetTier_eq_best (h : g.current = none ∨ g.revert = .revertive ∨ resteer = true ∨
      ∀ t, g.current = some t → g.tierUsable reading t = false) : g.targetTier reading resteer best = best := by
  unfold targetTier
  split
  · next t hcurrent hsticky =>
    refine if_neg fun hstays => ?_
    obtain ⟨hkind, husable⟩ := Bool.and_eq_true_iff.mp hstays
    obtain hnone | hrevertive | hresteer | hunusable := h
    · simp [hcurrent] at hnone
    · simp [hsticky] at hrevertive
    · simp [hresteer] at hkind
    · simp [hunusable t hcurrent] at husable
  · rfl

/-- The target tier is the best one, or the present one of a STICKY group, usable, in an evaluation that is no resteer. -/
theorem targetTier_cases (g : Group) (reading : List (Fin 64)) (resteer : Bool) (best : Tier) :
    g.targetTier reading resteer best = best ∨
      resteer = false ∧ g.revert = .sticky ∧ g.tierUsable reading (g.targetTier reading resteer best) = true := by
  unfold targetTier
  split
  · next t _ hsticky =>
    split
    · next hstays =>
      obtain ⟨hkind, husable⟩ := Bool.and_eq_true_iff.mp hstays
      exact .inr ⟨by simpa using hkind, hsticky, husable⟩
    · exact .inl rfl
  · exact .inl rfl

theorem tierUsable_targetTier (hbest : g.bestTier reading = some best) :
    g.tierUsable reading (g.targetTier reading resteer best) = true := by
  obtain h | ⟨_, _, husable⟩ := g.targetTier_cases reading resteer best
  · rw [h]
    exact (bestTier_eq_some_iff.mp hbest).1
  · exact husable

/-! ### The record an evaluation gives -/

/-- The record with its flows put on the tier `t` (R103, R108 to R110). -/
def steeredTo (g : Group) (reading : List (Fin 64)) (t : Tier) : Group :=
  { g with current := some t, buckets := g.newBuckets reading t, condition := g.newCondition reading t }

theorem steeredTo_current (g : Group) (reading : List (Fin 64)) (t : Tier) : (g.steeredTo reading t).current = some t := rfl

theorem steeredTo_buckets (g : Group) (reading : List (Fin 64)) (t : Tier) :
    (g.steeredTo reading t).buckets = g.newBuckets reading t := by rw [steeredTo]

theorem evaluate_of_bestTier_none (h : g.bestTier reading = none) (resteer : Bool) :
    g.evaluate reading resteer = { g with current := none, buckets := .fill none, condition := .blackhole } := by
  simp only [evaluate, h]

theorem evaluate_of_bestTier_some (h : g.bestTier reading = some best) (resteer : Bool) :
    g.evaluate reading resteer = g.steeredTo reading (g.targetTier reading resteer best) := by
  simp only [evaluate, h, steeredTo]

theorem evaluate_of_current (h : (g.evaluate reading resteer).current = some t) :
    g.tierUsable reading t = true ∧ g.evaluate reading resteer = g.steeredTo reading t := by
  cases hbest : g.bestTier reading with
  | none => simp [evaluate_of_bestTier_none hbest] at h
  | some best =>
    rw [evaluate_of_bestTier_some hbest] at h ⊢
    cases h
    exact ⟨tierUsable_targetTier hbest, rfl⟩

theorem evaluate_keeps_definition (g : Group) (reading : List (Fin 64)) (resteer : Bool) :
    (g.evaluate reading resteer).configured = g.configured ∧ (g.evaluate reading resteer).revert = g.revert ∧
      (g.evaluate reading resteer).tiers = g.tiers := by
  unfold evaluate
  split <;> exact ⟨rfl, rfl, rfl⟩

theorem newCondition_eq (g : Group) (reading : List (Fin 64)) (t : Tier) :
    g.newCondition reading t = if t = .t1 ∧ ∀ m ∈ g.members .t1, m ∈ reading then .full else .partly := by
  cases t <;> simp [newCondition]

end Group

end Sys2Proof.Machine

/-! SUPPORT. The buckets of an evaluation: which it settles and where, and which it places (R104, R108 to R110). -/

namespace Sys2Proof.Machine.Group

variable {g : Group} {reading members candidates : List (Fin 64)} {t : Tier} {buckets : Table (Option (Fin 64)) 32}
  {b : Fin 32} {m : Fin 64}

/-! ### Settling (R109) -/

/-- The buckets as steps 3 and 4 leave them: each settled, or none where it needs reassignment (R108, R109). -/
def settledBuckets (g : Group) (reading : List (Fin 64)) (t : Tier) : Table (Option (Fin 64)) 32 :=
  .tabulate fun b => settle (g.members t) reading (home (g.members t) b) ((g.placed t).get b)

theorem newBuckets_eq (g : Group) (reading : List (Fin 64)) (t : Tier) :
    g.newBuckets reading t =
      bucketNumbers.foldl (reassign ((g.members t).filter (reading.contains ·))) (g.settledBuckets reading t) := rfl

theorem home_eq_some (hm : m ∈ members) (b : Fin 32) : ∃ h ∈ members, home members b = some h := by
  have hlt : b.val % members.length < members.length := Nat.mod_lt _ (List.length_pos_of_mem hm)
  exact ⟨_, List.getElem_mem hlt, List.getElem?_eq_getElem hlt⟩

theorem settle_of_usable_home {h : Fin 64} (hread : h ∈ reading) (members : List (Fin 64)) (held : Option (Fin 64)) :
    settle members reading (some h) held = some h := if_pos (by simpa using hread)

/-- Away from its home a bucket stays where it was, where that is a usable member (R109). -/
theorem settle_of_unusable_home {h : Fin 64} (hread : h ∉ reading) (members : List (Fin 64)) (held : Option (Fin 64)) :
    settle members reading (some h) held = held.filter fun m => members.contains m && reading.contains m := by
  cases held <;> simp [settle, hread, Option.filter]

/-- A bucket settles at its home where that is usable, else where it was, where that is a usable member (R109). -/
theorem settle_eq_some_iff {h : Fin 64} {held : Option (Fin 64)} :
    settle members reading (some h) held = some m ↔
      m ∈ reading ∧ (h = m ∨ h ∉ reading ∧ held = some m ∧ m ∈ members) := by
  by_cases hread : h ∈ reading
  · rw [settle_of_usable_home hread, Option.some_inj]
    exact ⟨fun heq => ⟨heq ▸ hread, .inl heq⟩, fun ⟨_, hm⟩ => hm.resolve_right fun hnot => hnot.1 hread⟩
  · rw [settle_of_unusable_home hread, Option.filter_eq_some_iff, Bool.and_eq_true, List.contains_iff_mem, List.contains_iff_mem]
    constructor
    · rintro ⟨hheld, hmem, hm⟩
      exact ⟨hm, .inr ⟨hread, hheld, hmem⟩⟩
    · rintro ⟨hm, rfl | ⟨_, hheld, hmem⟩⟩
      · exact absurd hm hread
      · exact ⟨hheld, hmem, hm⟩

theorem placed_of_current (h : g.current = some t) : g.placed t = g.buckets := if_pos h

theorem placed_get (g : Group) (t : Tier) (b : Fin 32) :
    (g.placed t).get b = if g.current = some t then g.buckets.get b else home (g.members t) b := by
  unfold placed
  split
  · rfl
  · exact Table.get_tabulate _ b

/-- The settled buckets in the words of the manual; on an empty tier nothing is settled (R109). -/
theorem settledBuckets_get_eq_some_iff :
    (g.settledBuckets reading t).get b = some m ↔
      m ∈ reading ∧ (home (g.members t) b = some m ∨
        (∀ h, home (g.members t) b = some h → h ∉ reading) ∧ (g.placed t).get b = some m ∧ m ∈ g.members t) := by
  rw [settledBuckets, Table.get_tabulate]
  cases hhome : home (g.members t) b with
  | none =>
    constructor
    · intro h
      cases h
    · rintro ⟨_, h | ⟨_, _, hmem⟩⟩
      · cases h
      · obtain ⟨h, _, hsome⟩ := home_eq_some hmem b
        simp [hhome] at hsome
  | some h => simp [settle_eq_some_iff]

/-! ### Placing what is left (R110) -/

theorem leastHeld_mem (h : leastHeld buckets candidates = some m) : m ∈ candidates := by
  induction candidates generalizing m with
  | nil => cases h
  | cons x rest ih =>
    unfold leastHeld at h
    split at h
    · cases h
      exact List.mem_cons_self
    · next m' hrest =>
      split at h <;> cases h
      · exact List.mem_cons_self
      · exact List.mem_cons_of_mem x (ih hrest)

theorem leastHeld_isSome (h : candidates ≠ []) : (leastHeld buckets candidates).isSome = true := by
  cases candidates with
  | nil => exact absurd rfl h
  | cons x rest =>
    unfold leastHeld
    split
    · rfl
    · split <;> rfl

/-- The first of the candidates that hold fewest: fewer than every one before it, at most as many as every one after it. -/
theorem leastHeld_append_cons {before after : List (Fin 64)}
    (hbefore : ∀ x ∈ before, holdings buckets m < holdings buckets x)
    (hafter : ∀ x ∈ after, holdings buckets m ≤ holdings buckets x) :
    leastHeld buckets (before ++ m :: after) = some m := by
  induction before with
  | nil =>
    rw [List.nil_append, leastHeld]
    split
    · rfl
    · next x hleast => exact if_pos (hafter x (leastHeld_mem hleast))
  | cons x rest ih =>
    rw [List.cons_append, leastHeld, ih fun y hy => hbefore y (List.mem_cons_of_mem x hy)]
    exact if_neg (Nat.not_le.mpr (hbefore x List.mem_cons_self))

theorem reassign_of_some (h : buckets.get b = some m) : reassign candidates buckets b = buckets := by
  simp only [reassign, h]

theorem reassign_of_none (h : buckets.get b = none) :
    reassign candidates buckets b = buckets.set b (leastHeld buckets candidates) := by
  simp only [reassign, h]

theorem reassign_get_self_isSome (h : candidates ≠ []) : ((reassign candidates buckets b).get b).isSome = true := by
  cases hb : buckets.get b with
  | none => simp [reassign_of_none hb, leastHeld_isSome h]
  | some m => simp [reassign_of_some hb, hb]

/-- A bucket that holds a member keeps it, whichever bucket is looked at. -/
theorem reassign_get_of_some {x : Fin 32} (h : buckets.get x = some m) :
    (reassign candidates buckets b).get x = some m := by
  cases hb : buckets.get b with
  | none =>
    have hne : b ≠ x := fun heq => by simp [← heq, hb] at h
    rw [reassign_of_none hb, Table.get_set_of_ne hne, h]
  | some _ => rw [reassign_of_some hb, h]

theorem reassign_get_cases {x : Fin 32} (h : (reassign candidates buckets b).get x = some m) :
    buckets.get x = some m ∨ m ∈ candidates := by
  cases hb : buckets.get b with
  | none =>
    rw [reassign_of_none hb, Table.get_set] at h
    split at h
    · exact .inr (leastHeld_mem h)
    · exact .inl h
  | some _ => exact .inl (by rwa [reassign_of_some hb] at h)

variable {numbers : List (Fin 32)}

theorem foldl_reassign_get_of_some (h : buckets.get b = some m) :
    (numbers.foldl (reassign candidates) buckets).get b = some m := by
  induction numbers generalizing buckets with
  | nil => exact h
  | cons x rest ih => exact ih (reassign_get_of_some h)

theorem foldl_reassign_get_cases (h : (numbers.foldl (reassign candidates) buckets).get b = some m) :
    buckets.get b = some m ∨ m ∈ candidates := by
  induction numbers generalizing buckets with
  | nil => exact .inl h
  | cons x rest ih => exact (ih h).elim reassign_get_cases .inr

theorem foldl_reassign_get_isSome (h : candidates ≠ []) (hb : b ∈ numbers) :
    ((numbers.foldl (reassign candidates) buckets).get b).isSome = true := by
  induction numbers generalizing buckets with
  | nil => cases hb
  | cons x rest ih =>
    obtain rfl | hrest := List.mem_cons.mp hb
    · obtain ⟨m, hm⟩ := Option.isSome_iff_exists.mp (reassign_get_self_isSome (buckets := buckets) (b := b) h)
      rw [List.foldl_cons, foldl_reassign_get_of_some hm]
      rfl
    · exact ih hrest

theorem mem_bucketNumbers (b : Fin 32) : b ∈ bucketNumbers := List.mem_ofFn.mpr ⟨b, rfl⟩

/-! ### The buckets of a usable tier -/

/-- On a usable tier every bucket has a usable member of it, and the one it was settled on where it was (R109, R110). -/
theorem newBuckets_get (husable : g.tierUsable reading t = true) (b : Fin 32) :
    ∃ m, (g.newBuckets reading t).get b = some m ∧ m ∈ g.members t ∧ m ∈ reading ∧
      ∀ x, (g.settledBuckets reading t).get b = some x → m = x := by
  obtain ⟨u, humem, huread⟩ := tierUsable_iff.mp husable
  have hcandidates : (g.members t).filter (reading.contains ·) ≠ [] :=
    List.ne_nil_of_mem (List.mem_filter.mpr ⟨humem, by simpa using huread⟩)
  obtain ⟨m, hm⟩ := Option.isSome_iff_exists.mp
    (foldl_reassign_get_isSome (buckets := g.settledBuckets reading t) hcandidates (mem_bucketNumbers b))
  have hkept : ∀ x, (g.settledBuckets reading t).get b = some x → m = x := fun x hx =>
    Option.some_inj.mp (hm.symm.trans (foldl_reassign_get_of_some hx))
  refine ⟨m, hm, ?_, ?_, hkept⟩
  all_goals obtain hsettled | hplaced := foldl_reassign_get_cases hm
  · obtain ⟨_, hhome | ⟨_, _, hmem⟩⟩ := settledBuckets_get_eq_some_iff.mp hsettled
    · exact List.mem_of_getElem? hhome
    · exact hmem
  · exact (List.mem_filter.mp hplaced).1
  · exact (settledBuckets_get_eq_some_iff.mp hsettled).1
  · simpa using (List.mem_filter.mp hplaced).2

/-! ### A second evaluation (R113) -/

/-- Settling a second time leaves every bucket where the first evaluation put it. -/
theorem settledBuckets_steeredTo (husable : g.tierUsable reading t = true) :
    (g.steeredTo reading t).settledBuckets reading t = g.newBuckets reading t := by
  refine Table.ext_get fun b => ?_
  obtain ⟨m, hm, hmem, hread, hkept⟩ := newBuckets_get husable b
  rw [hm, settledBuckets_get_eq_some_iff]
  refine ⟨hread, ?_⟩
  by_cases hhome : ∃ h, home (g.members t) b = some h ∧ h ∈ reading
  · obtain ⟨h, hh, hhread⟩ := hhome
    exact .inl (hkept h (settledBuckets_get_eq_some_iff.mpr ⟨hhread, .inl hh⟩) ▸ hh)
  · refine .inr ⟨fun h hh hhread => hhome ⟨h, hh, hhread⟩, ?_, hmem⟩
    rw [placed_of_current (steeredTo_current g reading t), steeredTo_buckets, hm]

theorem newBuckets_steeredTo (husable : g.tierUsable reading t = true) :
    (g.steeredTo reading t).newBuckets reading t = g.newBuckets reading t := by
  rw [newBuckets_eq, settledBuckets_steeredTo husable]
  refine Table.ext_get fun b => ?_
  obtain ⟨m, hm, _⟩ := newBuckets_get husable b
  rw [hm]
  exact foldl_reassign_get_of_some hm

theorem steeredTo_steeredTo (husable : g.tierUsable reading t = true) :
    (g.steeredTo reading t).steeredTo reading t = g.steeredTo reading t := by
  rw [steeredTo, newBuckets_steeredTo husable]
  rfl

/-- A second choice of the tier, of the same kind or an ordinary one, is the first one's. -/
theorem targetTier_steeredTo {resteer again : Bool} {best : Tier} (hagain : again = resteer ∨ again = false)
    (hbest : g.bestTier reading = some best) :
    (g.steeredTo reading (g.targetTier reading resteer best)).targetTier reading again best =
      g.targetTier reading resteer best := by
  have husable := tierUsable_targetTier (resteer := resteer) hbest
  cases hrevert : g.revert with
  | revertive =>
    rw [targetTier_eq_best (.inr (.inl hrevert))]
    exact targetTier_eq_best (.inr (.inl hrevert))
  | sticky =>
    cases again with
    | false => exact targetTier_eq_current rfl hrevert husable
    | true =>
      have hresteer : resteer = true := by simpa using hagain.symm
      rw [targetTier_eq_best (.inr (.inr (.inl rfl))), targetTier_eq_best (.inr (.inr (.inl hresteer)))]

/-- An evaluation leaves the tiers' members, by which alone the best tier is chosen. -/
theorem bestTier_evaluate (g : Group) (reading : List (Fin 64)) (resteer : Bool) :
    (g.evaluate reading resteer).bestTier reading = g.bestTier reading := by
  unfold evaluate
  split <;> rfl

/-- Evaluation is idempotent (R113). -/
theorem evaluate_evaluate {resteer again : Bool} (hagain : again = resteer ∨ again = false) :
    (g.evaluate reading resteer).evaluate reading again = g.evaluate reading resteer := by
  have hbest' := g.bestTier_evaluate reading resteer
  cases hbest : g.bestTier reading with
  | none =>
    rw [evaluate_of_bestTier_none (hbest'.trans hbest), evaluate_of_bestTier_none hbest]
  | some best =>
    rw [evaluate_of_bestTier_some (hbest'.trans hbest), evaluate_of_bestTier_some hbest, targetTier_steeredTo hagain hbest,
      steeredTo_steeredTo (tierUsable_targetTier hbest)]

@[simp] theorem steeringChanged_self (g : Group) : steeringChanged g g = false := by simp [steeringChanged]

end Sys2Proof.Machine.Group

/-! SUPPORT. The commit of an evaluation, what the engine does after it, and the answers of the lookup port. -/

namespace Sys2Proof.Machine

/-! ### The encodings of OK (R172, R173) -/

namespace Answer

theorem ok_word (u : Fin 64) : ∀ p ∈ [(Tier.t1, 1), (.t2, 2), (.t3, 3)],
    (Answer.ok u p.1).word = BitVec.ofNat 16 (2048 * p.2 + u.val) := by
  revert u
  decide

theorem ok_probeBytes (u : Fin 64) : ∀ p ∈ [(Tier.t1, 1), (.t2, 2), (.t3, 3)],
    (Answer.ok u p.1).probeBytes = [0#8, BitVec.ofNat 8 u.val, BitVec.ofNat 8 p.2] := by
  intro p hp
  fin_cases hp <;> rfl

end Answer

namespace State

variable {s : State}

/-! ### The commit (R111, R112) -/

/-- The commit by the group's tiers before and after it (R111, R112). -/
theorem commit_eq_committed (s : State) (ev : Evaluation) (resteer : Bool) : s.commit ev resteer = committed s ev resteer := by
  unfold commit committed
  dsimp only
  generalize (s.groups.get ev.group).evaluate ev.usable resteer = new
  generalize s.groups.get ev.group = old
  by_cases hsame : old.buckets = new.buckets ∧ old.current = new.current
  · have hchanged : Group.steeringChanged old new = false := by simp [Group.steeringChanged, hsame]
    rw [if_pos hsame, hchanged]
    rfl
  · have hchanged : Group.steeringChanged old new = true := by
      rw [Group.steeringChanged, decide_eq_true_iff]
      exact Classical.not_and_iff_not_or_not.mp hsame
    rw [if_neg hsame, if_pos hchanged, Group.commitEvent]
    cases old.current with
    | none => cases new.current <;> rfl
    | some a =>
      cases new.current with
      | none => rfl
      | some c =>
        by_cases htier : a = c
        · simp only [if_pos htier]
          rfl
        · simp only [if_neg htier]
          rfl

/-- A commit that finds the record it would write changes nothing (R111). -/
theorem commit_eq_self {ev : Evaluation} {resteer : Bool}
    (h : (s.groups.get ev.group).evaluate ev.usable resteer = s.groups.get ev.group) : s.commit ev resteer = s := by
  rw [commit, h]
  simp [setGroup]

/-! ### The engine after a commit (R126, R130, R133) -/

theorem advance_of_next_visit {u : Fin 64} {p : Nat} {ev : Evaluation} {g : Fin 256} (hwork : s.engine.work = .sweep u p ev)
    (hnext : (s.engine.index.get u)[p + 1]? = some g) :
    s.advance = s.withEngine { s.engine with work := .sweep u (p + 1) (s.startEvaluation g) } := by
  simp only [advance, hwork, hnext]

theorem advance_of_last_visit {u : Fin 64} {p : Nat} {ev : Evaluation} (hwork : s.engine.work = .sweep u p ev)
    (hlast : (s.engine.index.get u)[p + 1]? = none) :
    s.advance = (s.withEngine { s.engine with work := .idle, ring := ringBottom s.engine.ring u }).select := by
  simp only [advance, hwork, hlast]

theorem advance_of_resteer {ev : Evaluation} (hwork : s.engine.work = .resteer ev) :
    s.advance = (s.withEngine { s.engine with work := .idle }).select := by
  simp only [advance, hwork]

theorem exec_evaluationCommit_of_sweep {u : Fin 64} {p : Nat} {ev : Evaluation} (hwork : s.engine.work = .sweep u p ev) :
    exec .evaluationCommit s = .next (committed s ev false).advance := by
  simp only [exec, execEvaluationCommit, hwork, commit_eq_committed]

theorem exec_evaluationCommit_of_resteer {ev : Evaluation} (hwork : s.engine.work = .resteer ev) :
    exec .evaluationCommit s = .next (committed s ev true).advance := by
  simp only [exec, execEvaluationCommit, hwork, commit_eq_committed]

theorem committed_engine (s : State) (ev : Evaluation) (resteer : Bool) : (committed s ev resteer).engine = s.engine := by
  rw [← commit_eq_committed, commit_engine]

theorem committed_ticks (s : State) (ev : Evaluation) (resteer : Bool) : (committed s ev resteer).ticks = s.ticks := by
  rw [← commit_eq_committed, commit_ticks]

theorem committed_usable (s : State) (ev : Evaluation) (resteer : Bool) : (committed s ev resteer).usable = s.usable := by
  rw [← commit_eq_committed]
  funext u
  rw [usable, commit_map, usable]

/-! ### The answer to a group and a hash (R115) -/

section LookupAnswer

variable {g : Fin 256} {hash : Half}

theorem lookupAnswer_of_offline (hmode : s.roster.mode = .offline) : s.lookupAnswer g hash = .notReady := if_pos hmode

theorem lookupAnswer_of_unconfigured (hmode : s.roster.mode ≠ .offline) (hconfigured : (s.groups.get g).configured = false) :
    s.lookupAnswer g hash = .dropUnused := (if_neg hmode).trans (if_pos hconfigured)

theorem lookupAnswer_of_blackhole (hmode : s.roster.mode ≠ .offline) (hconfigured : (s.groups.get g).configured = true)
    (hcondition : (s.groups.get g).condition = .blackhole) : s.lookupAnswer g hash = .dropBlackhole := by
  simp [lookupAnswer, hmode, hconfigured, hcondition]

theorem lookupAnswer_of_bucket {u : Fin 64} {t : Tier} (hmode : s.roster.mode ≠ .offline)
    (hconfigured : (s.groups.get g).configured = true) (hcondition : (s.groups.get g).condition ≠ .blackhole)
    (hbucket : (s.groups.get g).buckets.get (bucketOf hash) = some u) (hcurrent : (s.groups.get g).current = some t) :
    s.lookupAnswer g hash = .ok u t := by
  simp [lookupAnswer, hmode, hconfigured, hcondition, hbucket, hcurrent]

end LookupAnswer

theorem exec_lookupService {rest : List Request} {g : Fin 256} {hash : Half}
    (h : s.lookup.requests = .lookup g hash :: rest) :
    exec .lookupService s = .next { s with lookup := ⟨rest, some (s.lookupAnswer g hash).word⟩ } := by
  simp only [exec, execLookupService, h, answer, List.tail_cons]

theorem exec_probe (hrst : s.rstHeld = false) (g : Byte) (hash : Half) :
    exec (.probe g hash) s = .next (answered s (0#8 :: (s.lookupAnswer g.toFin hash).probeBytes)) := by
  rw [exec, execProbe, portCommand_of_released hrst]
  rfl

end State

end Sys2Proof.Machine

/-! PROOF. The steering table: what an evaluation gives, what its commit does, and what a lookup and a PROBE answer. -/

namespace Sys2Proof.SteeringTable

open Sys2Proof.Machine

/-! ### Evaluation -/

/-- Settles O51: by the best tier, none or one, and the choice between it and the present tier. -/
theorem evaluationChoosesTheTier : Obligations.EvaluationChoosesTheTier := by
  unfold Obligations.EvaluationChoosesTheTier
  intro g reading resteer usable new
  refine ⟨g.evaluate_keeps_definition reading resteer, fun hnone => ?_, fun best husable hfirst => ?_, fun t ht => ?_⟩
  · exact Group.evaluate_of_bestTier_none
      (Group.bestTier_eq_none_iff.mpr fun t => Group.tierUsable_eq_false_iff.mpr (hnone t)) resteer
  · have hbest : g.bestTier reading = some best := Group.bestTier_eq_some_iff.mpr
      ⟨Group.tierUsable_iff.mpr husable, fun t ht => Group.tierUsable_eq_false_iff.mpr (hfirst t ht)⟩
    have hcurrent : new.current = some (g.targetTier reading resteer best) :=
      congrArg Group.current (Group.evaluate_of_bestTier_some hbest resteer)
    rw [hcurrent, Option.some_inj]
    refine ⟨fun t ht hsticky hkind hstays => ?_, fun hgoes => ?_⟩
    · rw [hkind, Option.some_inj]
      exact Group.targetTier_eq_current ht hsticky (Group.tierUsable_iff.mpr hstays)
    · exact Group.targetTier_eq_best (hgoes.imp_right (.imp_right (.imp_right fun hunusable t ht =>
        Group.tierUsable_eq_false_iff.mpr (hunusable t ht))))
  · obtain ⟨_, hsteered⟩ := Group.evaluate_of_current ht
    exact (congrArg Group.condition hsteered).trans (g.newCondition_eq reading t)

/-- Settles O52: the buckets settled, then one reassignment after another, each by the first of those that hold fewest. -/
theorem evaluationPlacesTheBuckets : Obligations.EvaluationPlacesTheBuckets := by
  unfold Obligations.EvaluationPlacesTheBuckets
  refine ⟨fun g reading resteer t ht => ?_, fun candidates buckets b => ⟨fun m => Group.reassign_of_some, ?_⟩⟩
  · intro members home before kept
    obtain ⟨husable, hsteered⟩ := Group.evaluate_of_current ht
    have hkept (b : Fin 32) (m : Fin 64) : (g.settledBuckets reading t).get b = some m ↔ kept b m := by
      rw [Group.settledBuckets_get_eq_some_iff, Group.placed_get]
      rfl
    have hbuckets : (g.evaluate reading resteer).buckets = g.newBuckets reading t := by
      rw [hsteered, Group.steeredTo_buckets]
    rw [hbuckets]
    refine ⟨g.settledBuckets reading t, hkept, ?_, fun b => ?_⟩
    · simp only [Group.newBuckets_eq, List.contains_eq_mem, Group.bucketNumbers, members]
    · obtain ⟨m, hm, hmem, hread, hstays⟩ := Group.newBuckets_get husable b
      exact ⟨m, hm, hmem, hread, fun x hx => hstays x ((hkept b x).mpr hx)⟩
  · rintro hnone before m after rfl hbefore hafter
    rw [Group.reassign_of_none hnone, Group.leastHeld_append_cons hbefore hafter]

/-- Settles O53: by `Group.evaluate_evaluate`, for both kinds of second evaluation. -/
theorem evaluationIsIdempotent : Obligations.EvaluationIsIdempotent := by
  unfold Obligations.EvaluationIsIdempotent
  intro g reading resteer once
  have hsame : once.evaluate reading resteer = once := Group.evaluate_evaluate (.inl rfl)
  have hordinary : once.evaluate reading false = once := Group.evaluate_evaluate (.inr rfl)
  rw [hsame, hordinary]
  exact ⟨rfl, rfl, once.steeringChanged_self, once.steeringChanged_self, fun s id due hid =>
    ⟨State.commit_eq_self (by rw [hid, hsame]), State.commit_eq_self (by rw [hid, hordinary])⟩⟩

/-! ### The commit -/

/-- Settles O49: by the engine's work, and for a sweep by whether its list has a next group. -/
theorem commitAdvancesTheEngine : Obligations.CommitAdvancesTheEngine := by
  unfold Obligations.CommitAdvancesTheEngine
  intro s
  refine ⟨fun hidle => ?_, fun u p ev hwork => ⟨fun g hnext => ?_, fun hlast => ?_⟩, fun ev hwork => ?_⟩
  · simp only [exec, execEvaluationCommit, hidle]
  · rw [State.exec_evaluationCommit_of_sweep hwork, State.advance_of_next_visit (by rw [State.committed_engine, hwork])
      (by rw [State.committed_engine, hnext]), State.committed_engine, State.startEvaluation, State.committed_usable,
      State.committed_ticks]
    rfl
  · rw [State.exec_evaluationCommit_of_sweep hwork, State.advance_of_last_visit (by rw [State.committed_engine, hwork])
      (by rw [State.committed_engine, hlast]), State.committed_engine]
    rfl
  · rw [State.exec_evaluationCommit_of_resteer hwork, State.advance_of_resteer (by rw [State.committed_engine, hwork]),
      State.committed_engine]
    rfl

/-! ### Lookups -/

/-- Settles O25: both answer with `State.lookupAnswer`, which goes by the mode, the record and the bucket. -/
theorem lookupAndProbeAnswerFromTheTable : Obligations.LookupAndProbeAnswerFromTheTable := by
  unfold Obligations.LookupAndProbeAnswerFromTheTable
  intro s g hash r bucket answers
  have hanswers {a : Answer} (h : s.lookupAnswer g.toFin hash = a) {word : Half} {reply : List Byte} (hword : a.word = word)
      (hreply : a.probeBytes = reply) : answers word reply := by
    subst h hword hreply
    exact ⟨fun rest => State.exec_lookupService, fun hrst => State.exec_probe hrst g hash⟩
  refine ⟨fun hmode => ?_, fun hmode hconfigured => ?_, fun hmode hconfigured hcondition => ?_,
    fun u p hp hmode hconfigured hcondition hbucket hcurrent => ?_⟩
  · exact hanswers (State.lookupAnswer_of_offline hmode) rfl rfl
  · exact hanswers (State.lookupAnswer_of_unconfigured hmode hconfigured) rfl rfl
  · exact hanswers (State.lookupAnswer_of_blackhole hmode hconfigured hcondition) rfl rfl
  · have hserved : r.condition ≠ .blackhole := by
      obtain h | h := hcondition <;> simp [h]
    refine hanswers (State.lookupAnswer_of_bucket hmode hconfigured hserved hbucket hcurrent) ?_ ?_
    · exact Answer.ok_word u p hp
    · exact Answer.ok_probeBytes u p hp

end Sys2Proof.SteeringTable

/-! SUPPORT. Selection: what it takes (R128), and that it ends, because each uplink that completes at its selection leaves the
dirty set (R130). -/

namespace Sys2Proof.Machine.State

variable {s : State} {u : Fin 64} {g : Fin 256} {rest : List (Fin 256)}

/-! ### What is chosen (R128) -/

/-- The dirty uplinks in ring order, among which selection chooses. -/
def dirtyRing (s : State) : List (Fin 64) := s.engine.ring.filter (s.engine.dirty.get ·)

/-- The lowest group of the resteer set. -/
def lowestResteer (s : State) : Option (Fin 256) := (List.ofFn fun g : Fin 256 => g).find? (s.engine.resteers.get ·)

theorem choose_eq (s : State) :
    s.choose = (((s.dirtyRing.find? fun v => !s.usable v).or (s.dirtyRing.find? (s.usable ·))).map Choice.uplink).or
      (s.lowestResteer.map Choice.group) := by
  unfold choose
  dsimp only
  rw [← dirtyRing, ← lowestResteer]
  cases s.dirtyRing.find? fun v => !s.usable v with
  | some v => rfl
  | none => cases s.dirtyRing.find? (s.usable ·) <;> rfl

theorem lowestResteer_eq_none_iff : s.lowestResteer = none ↔ ∀ g, s.engine.resteers.get g = false := by
  rw [lowestResteer, List.find?_eq_none]
  exact ⟨fun h g => Bool.eq_false_of_not_eq_true (h g (List.mem_ofFn.mpr ⟨g, rfl⟩)), fun h g _ => ne_true_of_eq_false (h g)⟩

theorem lowestResteer_eq_some (hg : s.engine.resteers.get g = true)
    (hlow : ∀ h : Fin 256, h.val < g.val → s.engine.resteers.get h = false) : s.lowestResteer = some g := by
  rw [lowestResteer, List.find?_eq_some_iff_getElem]
  refine ⟨hg, g.val, List.length_ofFn.symm ▸ g.isLt, List.getElem_ofFn _, fun j hj => ?_⟩
  rw [List.getElem_ofFn, hlow ⟨j, hj.trans g.isLt⟩ hj]
  rfl

theorem dirtyRing_eq_nil_iff : s.dirtyRing = [] ↔ ∀ v ∈ s.engine.ring, s.engine.dirty.get v = false := by
  simp [dirtyRing, List.filter_eq_nil_iff]

/-- With no uplink waiting, selection takes the lowest group of the resteer set. -/
theorem choose_of_no_dirty (h : ∀ v ∈ s.engine.ring, s.engine.dirty.get v = false) :
    s.choose = s.lowestResteer.map Choice.group := by
  rw [choose_eq, dirtyRing_eq_nil_iff.mpr h]
  rfl

/-- Of the dirty uplinks the one chosen is the highest that is unusable, else the highest. -/
theorem choose_of_chosenUplink (h : ChosenUplink s u) : s.choose = some (.uplink u) := by
  obtain ⟨hdirty, above, below, hring, hplace⟩ := h
  have hsplit : s.dirtyRing = above.filter (s.engine.dirty.get ·) ++ u :: below.filter (s.engine.dirty.get ·) := by
    simp [dirtyRing, hring, hdirty]
  have hmem {v : Fin 64} (hv : v ∈ s.dirtyRing) : v ∈ s.engine.ring ∧ s.engine.dirty.get v = true := List.mem_filter.mp hv
  rw [choose_eq]
  split at hplace
  · next husable =>
    obtain ⟨habove, hall⟩ := hplace
    have hnone : s.dirtyRing.find? (fun v => !s.usable v) = none :=
      List.find?_eq_none.mpr fun v hv => by simp [hall v (hmem hv).1 (hmem hv).2]
    have hfirst : above.filter (s.engine.dirty.get ·) = [] := List.filter_eq_nil_iff.mpr fun v hv => by simp [habove v hv]
    rw [hnone, hsplit, hfirst]
    simp [husable]
  · next hunusable =>
    have hbefore : ∀ v ∈ above.filter (s.engine.dirty.get ·), (!(!s.usable v)) = true := fun v hv => by
      obtain ⟨hv, hd⟩ := List.mem_filter.mp hv
      simp [hplace v hv hd]
    have hfirst : s.dirtyRing.find? (fun v => !s.usable v) = some u :=
      List.find?_eq_some_iff_append.mpr ⟨by simpa using hunusable, _, _, hsplit, hbefore⟩
    rw [hfirst]
    rfl

/-- An uplink is chosen out of the dirty set. -/
theorem dirty_of_choose (h : s.choose = some (.uplink u)) : s.engine.dirty.get u = true := by
  have hmem : u ∈ s.dirtyRing := by
    rw [choose_eq] at h
    simp only [Option.or_eq_some_iff, Option.map_eq_some_iff, Choice.uplink.injEq, reduceCtorEq, and_false, exists_false,
      or_false, exists_eq_right] at h
    obtain h | ⟨_, h⟩ := h <;> exact List.mem_of_find?_eq_some h
  exact (List.mem_filter.mp hmem).2

/-- A group is chosen out of the resteer set. -/
theorem resteer_of_choose (h : s.choose = some (.group g)) : s.engine.resteers.get g = true := by
  rw [choose_eq] at h
  simp only [Option.or_eq_some_iff, Option.map_eq_some_iff, Choice.group.injEq, reduceCtorEq, and_false, exists_false, false_or,
    exists_eq_right] at h
  exact List.find?_some h.2

/-- Nothing is chosen only where neither the ring nor the resteer set has anything that waits. -/
theorem nothing_waits_of_choose_eq_none (h : s.choose = none) :
    (∀ v ∈ s.engine.ring, s.engine.dirty.get v = false) ∧ ∀ g, s.engine.resteers.get g = false := by
  rw [choose_eq] at h
  simp only [Option.or_eq_none_iff, Option.map_eq_none_iff] at h
  obtain ⟨⟨hunusable, husable⟩, hresteer⟩ := h
  refine ⟨dirtyRing_eq_nil_iff.mp (List.eq_nil_iff_forall_not_mem.mpr fun v hv => ?_), lowestResteer_eq_none_iff.mp hresteer⟩
  have hnot := List.find?_eq_none.mp hunusable v hv
  exact List.find?_eq_none.mp husable v hv (by simpa using hnot)

/-! ### The four selections of an idle engine -/

/-- Uplink `u`, which no group names, completes its sweep at its selection (R130). -/
def completedAtOnce (s : State) (u : Fin 64) : State :=
  s.withEngine { s.engine with dirty := s.engine.dirty.set u false, ring := ringBottom s.engine.ring u }

/-- The sweep of uplink `u` starts with its visit to group `g` (R128, R130). -/
def sweepStarted (s : State) (u : Fin 64) (g : Fin 256) : State :=
  s.withEngine { s.engine with dirty := s.engine.dirty.set u false, work := .sweep u 0 (s.startEvaluation g) }

/-- The resteer of group `g` starts (R128, R133). -/
def resteerStarted (s : State) (g : Fin 256) : State :=
  s.withEngine { s.engine with resteers := s.engine.resteers.set g false, work := .resteer (s.startEvaluation g) }

theorem selectFuel_of_unnamed (hidle : s.engine.work = .idle) (hchoose : s.choose = some (.uplink u))
    (hindex : s.engine.index.get u = []) (n : Nat) : selectFuel (n + 1) s = selectFuel n (s.completedAtOnce u) := by
  simp only [selectFuel, hidle, hchoose, hindex, completedAtOnce]

theorem selectFuel_of_named (hidle : s.engine.work = .idle) (hchoose : s.choose = some (.uplink u))
    (hindex : s.engine.index.get u = g :: rest) (n : Nat) : selectFuel (n + 1) s = s.sweepStarted u g := by
  simp only [selectFuel, hidle, hchoose, hindex, sweepStarted]

theorem selectFuel_of_resteer (hidle : s.engine.work = .idle) (hchoose : s.choose = some (.group g)) (n : Nat) :
    selectFuel (n + 1) s = s.resteerStarted g := by
  simp only [selectFuel, hidle, hchoose, resteerStarted]

theorem selectFuel_of_nothing (hidle : s.engine.work = .idle) (hchoose : s.choose = none) (n : Nat) : selectFuel n s = s := by
  cases n with
  | zero => rfl
  | succ n => simp only [selectFuel, hidle, hchoose]

/-! ### Selection ends (R130, log 28) -/

/-- The dirty set (R123). -/
def dirtySet (s : State) : Finset (Fin 64) := {u | s.engine.dirty.get u = true}

theorem card_dirtySet_le (s : State) : s.dirtySet.card ≤ 64 := by
  simpa using Finset.card_le_univ s.dirtySet

/-- An uplink that completes at its selection leaves the dirty set. -/
theorem card_dirtySet_completedAtOnce (hdirty : s.engine.dirty.get u = true) :
    (s.completedAtOnce u).dirtySet.card < s.dirtySet.card := by
  refine Finset.card_lt_card (Finset.ssubset_iff_subset_ne.mpr ⟨fun v hv => ?_, fun heq => ?_⟩)
  · simp only [dirtySet, completedAtOnce, withEngine_engine, Table.get_set, Finset.mem_filter, Finset.mem_univ,
      true_and] at hv ⊢
    split at hv
    · cases hv
    · exact hv
  · have hmem : u ∈ (s.completedAtOnce u).dirtySet := heq ▸ by simp [dirtySet, hdirty]
    exact absurd (Finset.mem_filter.mp hmem).2 (by simp [completedAtOnce])

/-- One repetition more than the dirty set has uplinks is enough. -/
theorem selectFuel_succ {n : Nat} (h : s.dirtySet.card < n) : selectFuel (n + 1) s = selectFuel n s := by
  induction n generalizing s with
  | zero => exact absurd h (Nat.not_lt_zero _)
  | succ n ih =>
    by_cases hidle : s.engine.work = .idle
    · cases hchoose : s.choose with
      | none => rw [selectFuel_of_nothing hidle hchoose, selectFuel_of_nothing hidle hchoose]
      | some choice =>
        cases choice with
        | group g => rw [selectFuel_of_resteer hidle hchoose, selectFuel_of_resteer hidle hchoose]
        | uplink u =>
          cases hindex : s.engine.index.get u with
          | nil =>
            have hless := card_dirtySet_completedAtOnce (dirty_of_choose hchoose)
            rw [selectFuel_of_unnamed hidle hchoose hindex, selectFuel_of_unnamed hidle hchoose hindex, ih (by omega)]
          | cons g rest => rw [selectFuel_of_named hidle hchoose hindex, selectFuel_of_named hidle hchoose hindex]
    · rw [selectFuel_of_busy hidle, selectFuel_of_busy hidle]

/-- An uplink that no group names completes at once, and selection follows. -/
theorem select_of_unnamed (hidle : s.engine.work = .idle) (hchoose : s.choose = some (.uplink u))
    (hindex : s.engine.index.get u = []) : s.select = (s.completedAtOnce u).select := by
  have hless := card_dirtySet_completedAtOnce (dirty_of_choose hchoose)
  have hmost := s.card_dirtySet_le
  rw [select, select, selectFuel_of_unnamed hidle hchoose hindex, ← selectFuel_succ (by omega)]

theorem select_of_named (hidle : s.engine.work = .idle) (hchoose : s.choose = some (.uplink u))
    (hindex : s.engine.index.get u = g :: rest) : s.select = s.sweepStarted u g := selectFuel_of_named hidle hchoose hindex 64

theorem select_of_resteer (hidle : s.engine.work = .idle) (hchoose : s.choose = some (.group g)) :
    s.select = s.resteerStarted g := selectFuel_of_resteer hidle hchoose 64

theorem select_of_nothing (hidle : s.engine.work = .idle) (hchoose : s.choose = none) : s.select = s :=
  selectFuel_of_nothing hidle hchoose 65

end Sys2Proof.Machine.State

/-! SUPPORT. The steering laws' invariant short of the mode: a group's record and the uplinks it may steer onto (R103, R134), and
that selection keeps it and leaves an idle engine nothing that waits (R128). -/

namespace Sys2Proof.Machine

/-! ### One group's record (R103, R134) -/

namespace Group

variable {r : Group} {t : Tier} {m : Fin 64} {reading : List (Fin 64)} {usable awaited : Fin 64 → Prop}

theorem mem_allMembers (h : m ∈ r.members t) : m ∈ r.allMembers := by
  rw [members, List.getD_eq_getElem?_getD] at h
  cases htier : r.tiers[t.place]? with
  | none => simp [htier] at h
  | some tier =>
    rw [htier] at h
    exact List.mem_flatten.mpr ⟨tier, List.mem_of_getElem? htier, h⟩

/-- Of at most three tiers, each member is in one that a tier number names (R101). -/
theorem mem_members_of_mem_allMembers (hfit : r.tiers.length ≤ 3) (h : m ∈ r.allMembers) : ∃ t, m ∈ r.members t := by
  obtain ⟨tier, htier, hm⟩ := List.mem_flatten.mp h
  obtain ⟨k, hk, hget⟩ := List.getElem_of_mem htier
  have hplace : ∃ t : Tier, t.place = k := by
    have : k < 3 := hk.trans_le hfit
    interval_cases k
    exacts [⟨.t1, rfl⟩, ⟨.t2, rfl⟩, ⟨.t3, rfl⟩]
  obtain ⟨t, rfl⟩ := hplace
  exact ⟨t, by rwa [members, List.getD_eq_getElem _ _ hk, hget]⟩

/-- The record steers onto usable members of its current tier, but for members awaited; a BLACKHOLE names no usable member but
awaited ones (R103, R134). -/
structure Steers (r : Group) (usable awaited : Fin 64 → Prop) : Prop where
  condition : r.condition = .blackhole ↔ r.current = none
  used : r.condition ≠ .unused
  empty : r.current = none → ∀ b, r.buckets.get b = none
  blackhole : r.current = none → ∀ m ∈ r.allMembers, usable m → awaited m
  buckets : ∀ t, r.current = some t → ∀ b, ∃ m, r.buckets.get b = some m ∧ m ∈ r.members t ∧ (usable m ∨ awaited m)

/-- A member may change its usability where it is awaited afterwards; any other one stays as it was, awaited or not. -/
theorem Steers.mono (h : r.Steers usable awaited) {usable' awaited' : Fin 64 → Prop}
    (hm : ∀ m ∈ r.allMembers, awaited' m ∨ (usable' m ↔ usable m) ∧ (awaited m → awaited' m)) :
    r.Steers usable' awaited' where
  condition := h.condition
  used := h.used
  empty := h.empty
  blackhole hnone m hmem husable := by
    obtain hawaited | ⟨hsame, hstill⟩ := hm m hmem
    · exact hawaited
    · exact hstill (h.blackhole hnone m hmem (hsame.mp husable))
  buckets t ht b := by
    obtain ⟨m, hb, hmem, hheld⟩ := h.buckets t ht b
    obtain hawaited | ⟨hsame, hstill⟩ := hm m (mem_allMembers hmem)
    · exact ⟨m, hb, hmem, .inr hawaited⟩
    · exact ⟨m, hb, hmem, hheld.imp hsame.mpr hstill⟩

/-- A record on which nothing is steered may stand where none of its members is usable. -/
theorem steers_of_blackhole (hcurrent : r.current = none) (hbuckets : r.buckets = .fill none)
    (hcondition : r.condition = .blackhole) (hunusable : ∀ m ∈ r.allMembers, ¬ usable m) : r.Steers usable awaited where
  condition := iff_of_true hcondition hcurrent
  used := by simp [hcondition]
  empty _ b := by simp [hbuckets]
  blackhole _ m hm husable := absurd husable (hunusable m hm)
  buckets t ht := by simp [hcurrent] at ht

/-- An evaluation whose reading is right but for members awaited gives a record that steers as it should (R106 to R110). -/
theorem steers_evaluate (hfit : r.tiers.length ≤ 3) (hread : ∀ m ∈ r.allMembers, (m ∈ reading ↔ usable m) ∨ awaited m)
    (resteer : Bool) : (r.evaluate reading resteer).Steers usable awaited := by
  cases hbest : r.bestTier reading with
  | none =>
    rw [evaluate_of_bestTier_none hbest]
    refine ⟨by simp, by simp, fun _ b => by simp, fun _ m hm husable => ?_, fun t ht => by cases ht⟩
    obtain ⟨t, ht⟩ := mem_members_of_mem_allMembers hfit hm
    have hunread : m ∉ reading := fun h =>
      tierUsable_eq_false_iff.mp (bestTier_eq_none_iff.mp hbest t) ⟨m, ht, h⟩
    exact (hread m hm).resolve_left fun h => hunread (h.mpr husable)
  | some best =>
    have husable := tierUsable_targetTier (resteer := resteer) hbest
    rw [evaluate_of_bestTier_some hbest]
    generalize r.targetTier reading resteer best = t at husable
    have hcondition : r.newCondition reading t ≠ .blackhole ∧ r.newCondition reading t ≠ .unused := by
      rw [newCondition_eq]
      split <;> exact ⟨by simp, by simp⟩
    refine ⟨iff_of_false hcondition.1 (by simp [steeredTo_current]), hcondition.2, fun h => ?_, fun h => ?_, fun x hx b => ?_⟩
    · simp [steeredTo_current] at h
    · simp [steeredTo_current] at h
    · rw [steeredTo_current, Option.some_inj] at hx
      subst hx
      obtain ⟨m, hm, hmem, hmread, -⟩ := newBuckets_get husable b
      rw [← steeredTo_buckets] at hm
      exact ⟨m, hm, hmem, (hread m (mem_allMembers hmem)).imp (·.mp hmread) id⟩

end Group

/-! ### The priority ring (R126) -/

theorem mem_ringBottom {ring : List (Fin 64)} (full : ∀ v, v ∈ ring) (u v : Fin 64) : v ∈ ringBottom ring u := by
  by_cases h : v = u <;> simp [ringBottom, h, full]

theorem nodup_ringBottom {ring : List (Fin 64)} (nodup : ring.Nodup) (u : Fin 64) : (ringBottom ring u).Nodup := by
  simp [ringBottom, List.nodup_append, nodup.filter]

/-! ### The invariant of the steering laws, the mode aside -/

theorem bucketLaw_iff (s : State) : BucketLaw s ↔
    ∀ g, (s.groups.get g).configured = true → (s.groups.get g).Steers (s.usable · = true) (Awaited s g) := by
  refine forall_congr' fun g => imp_congr_right fun _ =>
    ⟨fun ⟨hcondition, hused, hheld⟩ => ?_, fun h => ⟨h.condition, h.used, ?_⟩⟩
  · cases hcurrent : (s.groups.get g).current with
    | none =>
      rw [hcurrent] at hheld hcondition
      exact ⟨hcurrent ▸ hcondition, hused, fun _ => hheld.1, fun _ => hheld.2, fun t ht => by simp [hcurrent] at ht⟩
    | some t =>
      rw [hcurrent] at hheld hcondition
      refine ⟨hcurrent ▸ hcondition, hused, fun h => by simp [hcurrent] at h, fun h => by simp [hcurrent] at h, fun x hx => ?_⟩
      cases hcurrent.symm.trans hx
      exact hheld
  · cases hcurrent : (s.groups.get g).current with
    | none => exact ⟨h.empty hcurrent, h.blackhole hcurrent⟩
    | some t => exact h.buckets t hcurrent

/-- What the steering laws rest on, but for the mode and for what waits: the groups and the index agree, the ring is whole, the
buckets are where they may be and the evaluation in flight reads right. -/
structure Steered (s : State) : Prop where
  tiers : TierLaw s
  index : IndexLaw s
  nodup : s.engine.ring.Nodup
  full : ∀ u, u ∈ s.engine.ring
  buckets : ∀ g, (s.groups.get g).configured = true → (s.groups.get g).Steers (s.usable · = true) (Awaited s g)
  reading : ReadingLaw s

/-- An idle engine has nothing waiting (R128). -/
def Selected (s : State) : Prop :=
  s.engine.work = .idle → (∀ u, s.engine.dirty.get u = false) ∧ ∀ g, s.engine.resteers.get g = false

/-- The invariant of the steering laws, but for the mode. -/
structure Steady (s : State) : Prop where
  steered : Steered s
  selected : Selected s

theorem steeringInv_iff (s : State) : SteeringInv s ↔ (LockLaw s ∧ OfflineLaw s) ∧ Steady s :=
  ⟨fun ⟨lock, offline, tiers, index, ⟨nodup, full, selected⟩, buckets, reading⟩ =>
    ⟨⟨lock, offline⟩, ⟨tiers, index, nodup, full, (bucketLaw_iff s).mp buckets, reading⟩, selected⟩,
  fun ⟨⟨lock, offline⟩, hs, selected⟩ =>
    ⟨lock, offline, hs.tiers, hs.index, ⟨hs.nodup, hs.full, selected⟩, (bucketLaw_iff s).mpr hs.buckets, hs.reading⟩⟩

/-- What is awaited is dirty or in sweep, which is all that the manual's words say of it (R134). -/
theorem Awaited.dirtyOrInSweep {s : State} {g : Fin 256} {m : Fin 64} (h : Awaited s g m) : DirtyOrInSweep s m :=
  h.imp_right fun ⟨p, ev, hwork, _⟩ => ⟨p, ev, hwork⟩

theorem Awaited.dirty_of_not_sweep {s : State} {g : Fin 256} {m : Fin 64} (h : Awaited s g m)
    (hwork : ∀ u p ev, s.engine.work ≠ .sweep u p ev) : s.engine.dirty.get m = true :=
  h.resolve_right fun ⟨p, ev, hsweep, _⟩ => hwork m p ev hsweep

theorem Steered.steeringLaws {s : State} (hs : Steered s) : SteeringLaws s := by
  intro g hg
  have hgroup := hs.buckets g hg
  refine ⟨fun hsteered => ?_, fun hblackhole m hm husable => ?_⟩
  · obtain ⟨t, ht⟩ := Option.ne_none_iff_exists'.mp (mt hgroup.condition.mpr hsteered)
    refine ⟨t, ht, fun b => ?_⟩
    obtain ⟨m, hb, hm, hheld⟩ := hgroup.buckets t ht b
    refine ⟨m, hb, hm, fun hunusable => ?_⟩
    exact (hheld.resolve_left (ne_true_of_eq_false hunusable)).dirtyOrInSweep
  · exact (hgroup.blackhole (hgroup.condition.mp hblackhole) m hm husable).dirtyOrInSweep

namespace Steered

variable {s t : State} {u : Fin 64} {g : Fin 256} {rest : List (Fin 256)}

/-! ### The engine replaced, the groups and the map as they were -/

/-- A member of a configured group is named by the index, so an uplink that no group names is nobody's member (R124). -/
theorem mem_index (hs : Steered s) (hg : (s.groups.get g).configured = true) {m : Fin 64}
    (hm : m ∈ (s.groups.get g).allMembers) : g ∈ s.engine.index.get m := (hs.index m g).mpr ⟨hg, hm⟩

theorem configured_of_mem_index (hs : Steered s) (h : g ∈ s.engine.index.get u) : (s.groups.get g).configured = true :=
  ((hs.index u g).mp h).1

/-- The evaluation in flight is of a configured group (R105). -/
theorem inFlight_configured (hs : Steered s) {ev : Evaluation} (hev : s.engine.work.evaluation = some ev) :
    (s.groups.get ev.group).configured = true := (hs.reading.1 ev hev).1

/-- Its reading is right but for members dirtied since (R105, R131). -/
theorem reading_right (hs : Steered s) {ev : Evaluation} (hev : s.engine.work.evaluation = some ev) :
    ∀ m ∈ (s.groups.get ev.group).allMembers, (m ∈ ev.usable ↔ s.usable m = true) ∨ s.engine.dirty.get m = true :=
  (hs.reading.1 ev hev).2

/-- A sweep stands at the group that it visits (R130). -/
theorem visit_place (hs : Steered s) {p : Nat} {ev : Evaluation} (hwork : s.engine.work = .sweep u p ev) :
    (s.engine.index.get u)[p]? = some ev.group := hs.reading.2.1 u p ev hwork

theorem resteers_configured (hs : Steered s) (h : Fin 256) (hh : s.engine.resteers.get h = true) :
    (s.groups.get h).configured = true := hs.reading.2.2 h hh

/-- The engine is replaced with its index kept and its ring whole. -/
theorem replaceEngine (hs : Steered s) {e : Engine} (index : e.index = s.engine.index) (nodup : e.ring.Nodup)
    (full : ∀ v, v ∈ e.ring) (reading : ReadingLaw (s.withEngine e))
    (buckets : ∀ g, (s.groups.get g).configured = true →
      (s.groups.get g).Steers (s.usable · = true) (Awaited (s.withEngine e) g)) : Steered (s.withEngine e) where
  tiers := hs.tiers
  index u g := by
    rw [State.withEngine_engine, index]
    exact hs.index u g
  nodup := nodup
  full := full
  buckets := buckets
  reading := reading

/-- The engine is replaced and still awaits each member that it awaited for a group that the index names. -/
theorem withEngine (hs : Steered s) {e : Engine} (index : e.index = s.engine.index) (nodup : e.ring.Nodup)
    (full : ∀ v, v ∈ e.ring) (reading : ReadingLaw (s.withEngine e))
    (awaited : ∀ g m, g ∈ s.engine.index.get m → Awaited s g m → Awaited (s.withEngine e) g m) : Steered (s.withEngine e) :=
  hs.replaceEngine index nodup full reading fun g hg =>
    (hs.buckets g hg).mono fun m hm => .inr ⟨Iff.rfl, awaited g m (hs.mem_index hg hm)⟩

/-! ### Selection (R128, R130) -/

/-- A new evaluation of a configured group reads the map as it is (R105). -/
theorem readingLaw_of_started {e : Engine} (hg : (s.groups.get g).configured = true)
    (hwork : e.work.evaluation = some (s.startEvaluation g))
    (place : ∀ u p ev, e.work = .sweep u p ev → (e.index.get u)[p]? = some ev.group)
    (resteers : ∀ h, e.resteers.get h = true → (s.groups.get h).configured = true) : ReadingLaw (s.withEngine e) := by
  refine ⟨fun ev hev => ?_, place, resteers⟩
  cases hwork.symm.trans hev
  refine ⟨hg, fun m hm => .inl (List.mem_filter.trans ⟨fun h => h.2, fun husable => ⟨hm, husable⟩⟩)⟩

/-- An engine with no evaluation in flight reads nothing. -/
theorem readingLaw_of_idle {e : Engine} (hidle : e.work = .idle)
    (resteers : ∀ h, e.resteers.get h = true → (s.groups.get h).configured = true) : ReadingLaw (s.withEngine e) := by
  refine ⟨fun ev hev => ?_, fun u p ev hwork => ?_, resteers⟩
  · rw [State.withEngine_engine, hidle] at hev
    cases hev
  · rw [State.withEngine_engine, hidle] at hwork
    cases hwork

theorem awaited_of_idle (hidle : s.engine.work = .idle) {m : Fin 64} (h : Awaited s g m) : s.engine.dirty.get m = true :=
  h.dirty_of_not_sweep fun u p ev hsweep => by simp [hidle] at hsweep

theorem completedAtOnce (hs : Steered s) (hidle : s.engine.work = .idle) (hindex : s.engine.index.get u = []) :
    Steered (s.completedAtOnce u) := by
  refine hs.withEngine rfl (nodup_ringBottom hs.nodup u) (mem_ringBottom hs.full u) (readingLaw_of_idle hidle hs.resteers_configured)
    fun g m hg h => .inl ?_
  have hne : u ≠ m := by
    rintro rfl
    simp [hindex] at hg
  simpa [Table.get_set_of_ne hne] using awaited_of_idle hidle h

theorem sweepStarted (hs : Steered s) (hidle : s.engine.work = .idle) (hindex : s.engine.index.get u = g :: rest) :
    Steered (s.sweepStarted u g) := by
  have hg : g ∈ s.engine.index.get u := hindex ▸ List.mem_cons_self
  refine hs.withEngine rfl hs.nodup hs.full
    (readingLaw_of_started (hs.configured_of_mem_index hg) rfl (fun v p ev hwork => ?_) hs.resteers_configured) fun h m hm hawaited => ?_
  · cases hwork
    simp [hindex, State.startEvaluation]
  · by_cases hne : u = m
    · subst hne
      exact .inr ⟨0, _, rfl, hm⟩
    · exact .inl (by simpa [Table.get_set_of_ne hne] using awaited_of_idle hidle hawaited)

theorem resteerStarted (hs : Steered s) (hidle : s.engine.work = .idle) (hg : s.engine.resteers.get g = true) :
    Steered (s.resteerStarted g) := by
  refine hs.withEngine rfl hs.nodup hs.full (readingLaw_of_started (hs.resteers_configured g hg) rfl (fun v p ev hwork => by cases hwork)
    fun h hh => hs.resteers_configured h ?_) fun h m _ hawaited => .inl (awaited_of_idle hidle hawaited)
  rw [Table.get_set] at hh
  split at hh
  · cases hh
  · exact hh

theorem select (hs : Steered s) : Steered s.select :=
  State.selectFuel_keeps (fun _ _ hidle _ hindex h => h.completedAtOnce hidle hindex)
    (fun _ _ _ _ hidle _ hindex h => h.sweepStarted hidle hindex)
    (fun _ _ hidle hchoose h => h.resteerStarted hidle (State.resteer_of_choose hchoose)) 65 hs

end Steered

/-- Selection goes on until the engine is busy or nothing waits (R128). -/
theorem selected_select {s : State} (full : ∀ u, u ∈ s.engine.ring) : Selected s.select := by
  by_cases hidle : s.engine.work = .idle
  · cases hchoose : s.choose with
    | none =>
      obtain ⟨hdirty, hresteers⟩ := State.nothing_waits_of_choose_eq_none hchoose
      rw [State.select_of_nothing hidle hchoose]
      exact fun _ => ⟨fun u => hdirty u (full u), hresteers⟩
    | some choice =>
      cases choice with
      | group g =>
        rw [State.select_of_resteer hidle hchoose]
        exact fun h => by cases h
      | uplink u =>
        cases hindex : s.engine.index.get u with
        | nil =>
          rw [State.select_of_unnamed hidle hchoose hindex]
          exact selected_select (mem_ringBottom full u)
        | cons g rest =>
          rw [State.select_of_named hidle hchoose hindex]
          exact fun h => by cases h
  · rw [State.select_of_busy hidle]
    exact fun h => absurd h hidle
termination_by s.dirtySet.card
decreasing_by exact State.card_dirtySet_completedAtOnce (State.dirty_of_choose hchoose)

theorem Steered.steady_select {s : State} (hs : Steered s) : Steady s.select := ⟨hs.select, selected_select hs.full⟩

end Sys2Proof.Machine

/-! SUPPORT. What keeps the steering laws' invariant: a change of the map with its dirtying (R13, R123), a commit with the visit
that follows (R111, R126, R130), and a group written while nothing is usable (R118). -/

namespace Sys2Proof.Machine

namespace Steered

variable {s t : State} {u : Fin 64} {g : Fin 256} {e : Engine}

/-! ### Changes of the map -/

/-- The invariant speaks of the usability of uplinks, of the groups and of the engine alone. -/
theorem of_same (hs : Steered s) (usable : ∀ v, t.usable v = s.usable v) (groups : t.groups = s.groups)
    (engine : t.engine = s.engine) : Steered t := by
  have husable : t.usable = s.usable := funext usable
  have hawaited : Awaited t = Awaited s := by
    funext g m
    rw [Awaited, Awaited, engine]
  refine ⟨fun g => groups ▸ hs.tiers g, fun u g => ?_, engine ▸ hs.nodup, engine ▸ hs.full, fun g => ?_, ?_⟩
  · rw [engine, groups]
    exact hs.index u g
  · rw [groups, husable, hawaited]
    exact hs.buckets g
  · rw [ReadingLaw, engine, groups, husable]
    exact hs.reading

/-- An entry may change in any way where its uplink joins the dirty set (R123). -/
theorem dirtied (hs : Steered s) {x : MapEntry} (map : t.map = s.map.set u x) (groups : t.groups = s.groups)
    (engine : t.engine = { s.engine with dirty := s.engine.dirty.set u true }) : Steered t := by
  have hother {v : Fin 64} (h : u ≠ v) : t.usable v = s.usable v := by simp [State.usable, map, Table.get_set_of_ne h]
  have hdirty (v : Fin 64) (h : s.engine.dirty.get v = true) : t.engine.dirty.get v = true := by
    simp [engine, Table.get_set, h]
  obtain ⟨inFlight, place, resteers⟩ := hs.reading
  refine ⟨fun g => groups ▸ hs.tiers g, fun v g => ?_, by simpa [engine] using hs.nodup, by simpa [engine] using hs.full,
    fun g hg => ?_, fun ev hev => ?_, ?_, ?_⟩
  · rw [engine, groups]
    exact hs.index v g
  · rw [groups] at hg ⊢
    refine (hs.buckets g hg).mono fun m _ => ?_
    by_cases hne : u = m
    · exact .inl (.inl (by simp [engine, hne]))
    · refine .inr ⟨by rw [hother hne], fun h => h.imp (hdirty m) ?_⟩
      rw [engine]
      exact id
  · rw [engine] at hev
    rw [groups]
    obtain ⟨hg, hread⟩ := inFlight ev hev
    refine ⟨hg, fun m hm => ?_⟩
    by_cases hne : u = m
    · exact .inr (by simp [engine, hne])
    · rw [hother hne]
      exact (hread m hm).imp id (hdirty m)
  · rw [engine]
    exact place
  · rw [engine, groups]
    exact resteers

/-! ### The commit and the visit after it (R111, R126, R130) -/

/-- The evaluation in flight gives a record that only dirty members keep from being right. -/
theorem evaluated (hs : Steered s) {ev : Evaluation} (hev : s.engine.work.evaluation = some ev) (resteer : Bool) :
    ((s.groups.get ev.group).evaluate ev.usable resteer).Steers (s.usable · = true) (s.engine.dirty.get · = true) :=
  Group.steers_evaluate (hs.tiers ev.group).1 (hs.reading_right hev) resteer

end Steered

/-- A commit writes the record that the evaluation gives and leaves every other (R111). -/
theorem State.commit_groups (s : State) (ev : Evaluation) (resteer : Bool) :
    (s.commit ev resteer).groups = s.groups.set ev.group ((s.groups.get ev.group).evaluate ev.usable resteer) := by
  unfold State.commit
  dsimp only
  split
  · split <;> simp
  · simp

/-- No commit changes a group's definition (R111). -/
theorem State.commit_keeps_definitions (s : State) (ev : Evaluation) (resteer : Bool) (g : Fin 256) :
    ((s.commit ev resteer).groups.get g).configured = (s.groups.get g).configured ∧
      ((s.commit ev resteer).groups.get g).tiers = (s.groups.get g).tiers := by
  obtain ⟨hconfigured, -, htiers⟩ := (s.groups.get ev.group).evaluate_keeps_definition ev.usable resteer
  rw [State.commit_groups, Table.get_set]
  split
  · next h => exact h ▸ ⟨hconfigured, htiers⟩
  · exact ⟨rfl, rfl⟩

namespace Steered

variable {s t : State} {u : Fin 64} {g : Fin 256} {e : Engine} {ev : Evaluation} {resteer : Bool}

theorem commit (hs : Steered s) (hev : s.engine.work.evaluation = some ev) (resteer : Bool) :
    Steered (s.commit ev resteer) := by
  have hconfigured (g : Fin 256) := (s.commit_keeps_definitions ev resteer g).1
  have htiers (g : Fin 256) := (s.commit_keeps_definitions ev resteer g).2
  have hmembers (g : Fin 256) : ((s.commit ev resteer).groups.get g).allMembers = (s.groups.get g).allMembers := by
    rw [Group.allMembers, Group.allMembers, htiers]
  have husable : (s.commit ev resteer).usable = s.usable := funext fun v => by simp [State.usable]
  have hawaited : Awaited (s.commit ev resteer) = Awaited s := by
    funext g m
    simp [Awaited]
  refine ⟨fun g => ?_, fun u g => ?_, by simpa using hs.nodup, by simpa using hs.full, fun g hg => ?_, ?_⟩
  · rw [htiers, hconfigured]
    refine ⟨(hs.tiers g).1, fun h => ?_⟩
    have hne : ev.group ≠ g := by
      rintro rfl
      simp [hs.inFlight_configured hev] at h
    rw [State.commit_groups, Table.get_set_of_ne hne]
    exact (hs.tiers g).2 h
  · rw [State.commit_engine, hconfigured, hmembers]
    exact hs.index u g
  · rw [husable, hawaited]
    rw [hconfigured] at hg
    rw [State.commit_groups, Table.get_set]
    split
    · exact (hs.evaluated hev resteer).mono fun m _ => .inr ⟨Iff.rfl, Or.inl⟩
    · exact hs.buckets g hg
  · simp only [ReadingLaw, State.commit_engine, hconfigured, hmembers, husable]
    exact hs.reading

/-- After a visit its own group awaits nothing but dirty members, and the engine goes on to the groups that the sweep has still to
visit. -/
theorem visited {p : Nat} (hs : Steered s) (hwork : s.engine.work = .sweep u p ev)
    (hclean : (s.groups.get ev.group).Steers (s.usable · = true) (s.engine.dirty.get · = true))
    (dirty : e.dirty = s.engine.dirty) (index : e.index = s.engine.index) (nodup : e.ring.Nodup) (full : ∀ v, v ∈ e.ring)
    (reading : ReadingLaw (s.withEngine e))
    (next : ∀ g ∈ (s.engine.index.get u).drop (p + 1), Awaited (s.withEngine e) g u) : Steered (s.withEngine e) := by
  refine hs.replaceEngine index nodup full reading fun g hg => ?_
  have hdirty {m : Fin 64} (h : s.engine.dirty.get m = true) : Awaited (s.withEngine e) g m :=
    .inl (by rw [State.withEngine_engine, dirty, h])
  by_cases hgroup : g = ev.group
  · subst hgroup
    exact hclean.mono fun m _ => .inr ⟨Iff.rfl, hdirty⟩
  · refine (hs.buckets g hg).mono fun m _ => .inr ⟨Iff.rfl, ?_⟩
    rintro (h | ⟨q, ev', hsweep, hmem⟩)
    · exact hdirty h
    · cases hwork.symm.trans hsweep
      obtain ⟨hlt, hplace⟩ := List.getElem?_eq_some_iff.mp (hs.visit_place hwork)
      rw [List.drop_eq_getElem_cons hlt, hplace, List.mem_cons] at hmem
      exact next g (hmem.resolve_left hgroup)

theorem nextVisit {p : Nat} (hs : Steered s) (hwork : s.engine.work = .sweep u p ev)
    (hclean : (s.groups.get ev.group).Steers (s.usable · = true) (s.engine.dirty.get · = true))
    (hnext : (s.engine.index.get u)[p + 1]? = some g) :
    Steered (s.withEngine { s.engine with work := .sweep u (p + 1) (s.startEvaluation g) }) := by
  refine hs.visited hwork hclean rfl rfl hs.nodup hs.full ?_ fun h hh => .inr ⟨p + 1, _, rfl, hh⟩
  refine readingLaw_of_started (hs.configured_of_mem_index (List.mem_of_getElem? hnext)) rfl (fun v q ev' h => ?_) hs.resteers_configured
  cases h
  exact hnext

theorem lastVisit {p : Nat} (hs : Steered s) (hwork : s.engine.work = .sweep u p ev)
    (hclean : (s.groups.get ev.group).Steers (s.usable · = true) (s.engine.dirty.get · = true))
    (hlast : (s.engine.index.get u)[p + 1]? = none) :
    Steered (s.withEngine { s.engine with work := .idle, ring := ringBottom s.engine.ring u }) := by
  refine hs.visited hwork hclean rfl rfl (nodup_ringBottom hs.nodup u) (mem_ringBottom hs.full u)
    (readingLaw_of_idle rfl hs.resteers_configured) fun h hh => ?_
  rw [List.drop_eq_nil_of_le (List.getElem?_eq_none_iff.mp hlast)] at hh
  cases hh

theorem resteered (hs : Steered s) (hwork : s.engine.work = .resteer ev) :
    Steered (s.withEngine { s.engine with work := .idle }) :=
  hs.withEngine rfl hs.nodup hs.full (readingLaw_of_idle rfl hs.resteers_configured) fun g m _ h =>
    .inl (h.dirty_of_not_sweep fun u p ev' hsweep => by simp [hwork] at hsweep)

end Steered

namespace Steady

variable {s t : State} {u : Fin 64} {g : Fin 256}

theorem of_usable (hs : Steady s) (usable : ∀ v, t.usable v = s.usable v) (groups : t.groups = s.groups)
    (engine : t.engine = s.engine) : Steady t where
  steered := hs.steered.of_same usable groups engine
  selected := by
    rw [Selected, engine]
    exact hs.selected

theorem of_same (hs : Steady s) (map : ∀ v, (t.map.get v).state = (s.map.get v).state := by simp)
    (groups : t.groups = s.groups := by simp) (engine : t.engine = s.engine := by simp) : Steady t :=
  hs.of_usable (fun v => by rw [State.usable, State.usable, map]) groups engine

/-! ### Claims on the map (R4, R8 to R14) -/

/-- An entry changes its state, and its uplink is dirtied where that changes its usability (R13). -/
theorem dirtyOnChange (hs : Steady s) {x : MapEntry} {new : MapState} (map : t.map = s.map.set u x) (state : x.state = new)
    (groups : t.groups = s.groups) (engine : t.engine = s.engine) : Steady (t.dirtyOnChange u (s.map.get u).state new) := by
  unfold State.dirtyOnChange
  split
  · next hsame =>
    refine hs.of_usable (fun v => ?_) groups engine
    rw [State.usable, map, Table.get_set]
    split
    · next h => rw [← h, state, ← hsame, State.usable]
    · rfl
  · exact (hs.steered.dirtied (t := t.withEngine { t.engine with dirty := t.engine.dirty.set u true }) map groups
      (by simp [engine])).steady_select

theorem changeOwn (hs : Steady s) (i : Fin 4) (m : MapState) (c : FactorSet) : Steady (s.changeOwn i m c) :=
  hs.dirtyOnChange rfl rfl rfl rfl

theorem changePeer (hs : Steady s) (u : Fin 64) (m : MapState) (ep : Byte) (o : Origin) (c : FactorSet) :
    Steady (s.changePeer u m ep o c) := hs.dirtyOnChange rfl rfl rfl rfl

/-- An entry rewritten in the state that it has. -/
theorem setEntry (hs : Steady s) {x : MapEntry} (state : x.state = (s.map.get u).state) : Steady (s.setEntry u x) := by
  refine hs.of_same (fun v => ?_)
  rw [State.setEntry_map, Table.get_set]
  split
  · next h => rw [← h, state]
  · rfl

theorem applyRecord (hs : Steady s) (un : Bool) (k : Fin 16) (r : Record) : Steady (State.applyRecord un k s r) :=
  iteInduction (fun _ => iteInduction (fun _ => hs.setEntry rfl) fun _ => hs.changePeer ..) fun _ => hs

theorem clearEntry (hs : Steady s) (u : Fin 64) : Steady (s.clearEntry u) :=
  iteInduction (fun _ => hs.setEntry rfl) fun _ => hs.changePeer ..

theorem rosterClaim (hs : Steady s) (k : Fin 16) : Steady (s.rosterClaim k) :=
  List.foldlRecOn _ _ hs fun _ h _ _ => h.clearEntry _

theorem transition (hs : Steady s) (i : Fin 4) (d : Detector) (c : FactorSet) : Steady (s.transition i d c) :=
  have hset : Steady (s.setDetector i d) := hs.of_same
  iteInduction (fun _ => hset) fun _ => hset.changeOwn ..

theorem keptByDetectors : KeptByDetectors Steady where
  setDetector _ _ h := h.of_same
  transition _ _ _ h := h.transition ..
  push _ _ h := h.of_same
  replied _ _ h := h.of_same

/-! ### Notices and silence (R94 to R96) -/

theorem testGuard (hs : Steady s) : Steady s.testGuard := hs.of_same

theorem takeNotice (hs : Steady s) (n : RxNotice) : Steady (s.takeNotice n) :=
  have heard : Steady (s.setSlot n.sender (s.heardSlot (s.roster.slots.get n.sender) n.join)) := hs.of_same
  List.foldlRecOn _ _ (iteInduction (fun _ => heard.of_same) fun _ => heard) fun _ h _ _ => h.applyRecord ..

theorem loseSlot (hs : Steady s) (k : Fin 16) (x : Slot) (subject : Byte) (d : Detail) :
    Steady (((s.setSlot k x).push subject d).rosterClaim k) :=
  have lost : Steady ((s.setSlot k x).push subject d) := hs.of_same
  lost.rosterClaim k

theorem takeForeign (hs : Steady s) (n : RxNotice) : Steady (s.takeForeign n) :=
  iteInduction (fun _ => hs.of_same) fun _ => (hs.loseSlot ..).testGuard

theorem fallSilent (hs : Steady s) (k : Fin 16) : Steady (s.fallSilent k) := (hs.loseSlot ..).testGuard

theorem receive (hs : Steady s) (n : RxNotice) : Steady (s.receive n) := by
  have dropped (f : LaneFlags) : Steady (s.withFlags f).discard := hs.of_same (fun _ => rfl) rfl rfl
  have closing (f : LaneFlags) (l : Lane) : Steady ((s.withFlags f).withLane l) := hs.of_same
  unfold State.receive
  dsimp only
  split
  · exact dropped _
  · exact dropped _
  · exact iteInduction (fun _ => dropped _) fun _ => (dropped _).takeForeign n
  · exact iteInduction (fun _ => closing ..) fun _ => (closing ..).takeNotice n

/-! ### The engine (R111, R127, R130) -/

/-- A commit leaves the record of its own group with nothing awaited but dirty members, and the engine goes on from there. -/
theorem commit_advance (hs : Steady s) {ev : Evaluation} (hev : s.engine.work.evaluation = some ev) (resteer : Bool) :
    Steady (s.commit ev resteer).advance := by
  have hsteered := hs.steered.commit hev resteer
  have hengine := s.commit_engine ev resteer
  have hclean : ((s.commit ev resteer).groups.get ev.group).Steers ((s.commit ev resteer).usable · = true)
      ((s.commit ev resteer).engine.dirty.get · = true) := by
    have husable : (s.commit ev resteer).usable = s.usable := funext fun v => by simp [State.usable]
    rw [State.commit_groups, Table.get_set_self, husable, hengine]
    exact hs.steered.evaluated hev resteer
  generalize s.commit ev resteer = c at hsteered hengine hclean
  rw [← hengine] at hev
  cases hwork : c.engine.work with
  | idle => simp [hwork, Work.evaluation] at hev
  | resteer ev' =>
    rw [State.advance_of_resteer hwork]
    exact (hsteered.resteered hwork).steady_select
  | sweep u p ev' =>
    rw [hwork, Work.evaluation, Option.some_inj] at hev
    subst hev
    cases hnext : (c.engine.index.get u)[p + 1]? with
    | none =>
      rw [State.advance_of_last_visit hwork hnext]
      exact (hsteered.lastVisit hwork hclean hnext).steady_select
    | some g =>
      rw [State.advance_of_next_visit hwork hnext]
      exact ⟨hsteered.nextVisit hwork hclean hnext, fun hidle => by cases hidle⟩

/-- A configured group joins the resteer set, and an idle engine selects at once (R127). -/
theorem resteer (hs : Steady s) (hg : (s.groups.get g).configured = true) :
    Steady (s.withEngine { s.engine with resteers := s.engine.resteers.set g true }).select := by
  obtain ⟨inFlight, place, resteers⟩ := hs.steered.reading
  refine (hs.steered.withEngine (e := { s.engine with resteers := s.engine.resteers.set g true }) rfl hs.steered.nodup
    hs.steered.full ⟨inFlight, place, fun h hh => ?_⟩ fun _ _ _ h => h).steady_select
  by_cases hne : g = h
  · exact hne ▸ hg
  · exact resteers h (by simpa [Table.get_set_of_ne hne] using hh)

end Steady

end Sys2Proof.Machine

/-! SUPPORT. The two phases of the part, at rest in OFFLINE with the lock open and running with it closed (R18, R82, R151), and
what every command makes of them. -/

namespace Sys2Proof

/-- The commands that find nothing to do at rest: no detector watches, the lane is released, no peer is heard and the engine is
idle. -/
def Instr.idlesAtRest : Instr → Bool
  | .heartbeatPulse _ | .heartbeatWatchdogExpiry _ | .qualifyTimerExpiry _ | .restoreHoldExpiry _ | .stabilityTimerExpiry _
  | .noticeStartOffer | .arbitrationLost | .arbitrationWon | .txMismatch | .abortPatternEnd | .noticeCompleted _
  | .noticeDecision _ | .receiveAbort | .receiveTruncation | .badStartMark | .receivedNoticeEnd | .silenceTimerExpiry _
  | .joinWindowExpiry | .cooldownExpiry | .evaluationCommit => true
  | _ => false

/-- The commands that OFFLINE refuses. -/
def Instr.refusedAtRest : Instr → Bool
  | .drain _ | .undrain _ | .release _ | .resteer _ | .leave | .rejoin | .restart => true
  | _ => false

end Sys2Proof

namespace Sys2Proof.Machine

theorem AnswersIn.imp {o : Host.Outcome State Fault Refusal} {p q : State → Prop} (h : AnswersIn o p)
    (hpq : ∀ t, p t → q t) : AnswersIn o q := by
  obtain ⟨t, ho, hp⟩ := h
  exact ⟨t, ho, hpq t hp⟩

theorem AnswersIn.and {o : Host.Outcome State Fault Refusal} {p q : State → Prop} (hp : AnswersIn o p) (hq : AnswersIn o q) :
    AnswersIn o fun t => p t ∧ q t := by
  obtain ⟨t, ho, ht⟩ := hp
  exact ⟨t, ho, ht, hq.of_eq_next ho⟩

/-- A configuration command has its effect only where the lock is open (R151). -/
theorem answersIn_configure_of_open {s : State} {effect : State → State} {p : State → Prop} (held : p s)
    (refused : p (s.refuse .locked)) (taken : s.port.locked = false → p (effect s)) : AnswersIn (configure s effect) p :=
  answersIn_portCommand held (iteInduction (fun _ => refused) fun hopen => taken (Bool.eq_false_of_not_eq_true hopen))

/-! ### At rest -/

/-- OFFLINE, the lock open and every block at rest (R18, R41, R82, R98, R135, R151). -/
structure Resting (s : State) : Prop where
  mode : s.roster.mode = .offline
  locked : s.port.locked = false
  map : ∀ u, (s.map.get u).state = .absent
  detectors : ∀ i, (s.detectors.get i).state = .disabled ∧ (s.detectors.get i).watchdog = none ∧
    (s.detectors.get i).stability = none
  tx : s.lane.tx = .idle
  rx : s.lane.rx = .off
  slots : ∀ k, (s.roster.slots.get k).state = .self ∨ (s.roster.slots.get k).state = .unknown
  work : s.engine.work = .idle
  dirty : ∀ u, s.engine.dirty.get u = false
  resteers : ∀ g, s.engine.resteers.get g = false

namespace Resting

variable {s t : State}

theorem of_same (hs : Resting s) (roster : t.roster = s.roster := by simp) (locked : t.port.locked = s.port.locked := by simp)
    (map : ∀ u, (t.map.get u).state = (s.map.get u).state := by simp) (detectors : t.detectors = s.detectors := by simp)
    (tx : t.lane.tx = s.lane.tx := by simp) (rx : t.lane.rx = s.lane.rx := by simp)
    (work : t.engine.work = s.engine.work := by simp) (dirty : t.engine.dirty = s.engine.dirty := by simp)
    (resteers : t.engine.resteers = s.engine.resteers := by simp) : Resting t where
  mode := by rw [roster, hs.mode]
  locked := by rw [locked, hs.locked]
  map u := by rw [map, hs.map]
  detectors := by rw [detectors]; exact hs.detectors
  tx := by rw [tx, hs.tx]
  rx := by rw [rx, hs.rx]
  slots := by rw [roster]; exact hs.slots
  work := by rw [work, hs.work]
  dirty := by rw [dirty]; exact hs.dirty
  resteers := by rw [resteers]; exact hs.resteers

theorem replied (hs : Resting s) (status : Status) (data : List Byte) : Resting (s.replied status data) := hs.of_same

theorem refuse (hs : Resting s) (status : Status) : Resting (s.refuse status) := hs.replied status []

/-- A detector configured, or its lines followed, stays at rest (R22, R41). -/
theorem setDetector (hs : Resting s) {i : Fin 4} {d : Detector} (state : d.state = (s.detectors.get i).state)
    (watchdog : d.watchdog = (s.detectors.get i).watchdog) (stability : d.stability = (s.detectors.get i).stability) :
    Resting (s.setDetector i d) :=
  { hs with
    detectors := Table.forall_set (p := fun x : Detector => x.state = .disabled ∧ x.watchdog = none ∧ x.stability = none)
      hs.detectors i (by rw [state, watchdog, stability]; exact hs.detectors i) }

theorem not_usable (hs : Resting s) (u : Fin 64) : s.usable u = false := by simp [State.usable, hs.map]

theorem not_watches (hs : Resting s) (i : Fin 4) (f : FactorSet) : (s.detectors.get i).watches f = false := by
  simp [Detector.watches, (hs.detectors i).1]

theorem fullReset (code : Fin 16) (los lock : Fin 4 → Bool) (mcs held : Bool) (pending : List Instr) (pins : List PortPin)
    (drawn : Nat) : Resting (.fullReset code los lock mcs held pending pins drawn) where
  mode := rfl
  locked := rfl
  map u := by simp [State.fullReset, MapEntry.reset]
  detectors i := by simp [State.fullReset, Detector.reset]
  tx := rfl
  rx := rfl
  slots k := by simpa [State.fullReset, Roster.reset, Roster.resetSlots] using State.slot_reset_state _
  work := rfl
  dirty u := Table.get_fill _ u
  resteers g := Table.get_fill _ g

/-! ### Commands at rest -/

theorem exec_of_idles (hs : Resting s) {c : Instr} (hc : c.idlesAtRest = true) : exec c s = .next s := by
  have hoffers : s.offersStart = false := by simp [State.offersStart, hs.rx]
  cases c with
  | heartbeatPulse i => simp [exec, execHeartbeatPulse, hs.not_watches]
  | heartbeatWatchdogExpiry i => simp [exec, execHeartbeatWatchdogExpiry, hs.detectors i]
  | qualifyTimerExpiry i => simp [exec, execQualifyTimerExpiry, hs.detectors i]
  | restoreHoldExpiry i => simp [exec, execRestoreHoldExpiry, hs.detectors i]
  | stabilityTimerExpiry i => simp [exec, execStabilityTimerExpiry, hs.detectors i]
  | noticeStartOffer => simp [exec, execNoticeStartOffer, hoffers]
  | arbitrationLost => simp [exec, execArbitrationLost, hs.tx]
  | arbitrationWon => simp [exec, execArbitrationWon, hs.tx]
  | txMismatch => simp [exec, execTxMismatch, hs.tx]
  | abortPatternEnd => simp [exec, execAbortPatternEnd, hs.tx]
  | noticeCompleted slots => simp [exec, execNoticeCompleted, hs.tx]
  | noticeDecision n => simp [exec, execNoticeDecision, hs.tx, hs.rx]
  | receiveAbort => simp [exec, execReceiveAbort, hs.rx]
  | receiveTruncation => simp [exec, execReceiveTruncation, hs.rx]
  | badStartMark => simp [exec, execBadStartMark, hs.rx]
  | receivedNoticeEnd => simp [exec, execReceivedNoticeEnd, hs.rx]
  | silenceTimerExpiry k =>
    obtain hself | hunknown := hs.slots k
    · simp [exec, execSilenceTimerExpiry, hself]
    · simp [exec, execSilenceTimerExpiry, hunknown]
  | joinWindowExpiry => simp [exec, execJoinWindowExpiry, hs.mode]
  | cooldownExpiry => simp [exec, execCooldownExpiry, hs.mode]
  | evaluationCommit => simp [exec, execEvaluationCommit, hs.work]
  | _ => cases hc

/-- A command that names a detector is refused in OFFLINE, for its index or for the mode (R156). -/
theorem answersIn_detectorCommand (hs : Resting s) (index : Byte) (effect : State → Fin 4 → State) :
    AnswersIn (detectorCommand index s effect) Resting := by
  refine answersIn_portCommand hs ?_
  split
  · exact hs.refuse _
  · rw [if_pos hs.mode]
    exact hs.refuse _

/-- A command that OFFLINE refuses for the mode alone. -/
theorem answersIn_modeCommand (hs : Resting s) {effect : State → State} (refused : effect s = s.refuse .wrongMode) :
    AnswersIn (portCommand s effect) Resting :=
  answersIn_portCommand hs (refused ▸ hs.refuse _)

theorem exec_of_refused (hs : Resting s) {c : Instr} (hc : c.refusedAtRest = true) : AnswersIn (exec c s) Resting := by
  cases c with
  | drain index =>
    rw [exec, execDrain]
    exact hs.answersIn_detectorCommand ..
  | undrain index =>
    rw [exec, execUndrain]
    exact hs.answersIn_detectorCommand ..
  | release index =>
    rw [exec, execRelease]
    exact hs.answersIn_detectorCommand ..
  | resteer group =>
    rw [exec, execResteer]
    exact hs.answersIn_modeCommand (if_pos hs.mode)
  | restart =>
    rw [exec, execRestart]
    exact hs.answersIn_modeCommand (if_pos hs.mode)
  | leave =>
    rw [exec, execLeave]
    exact hs.answersIn_modeCommand (by simp only [hs.mode])
  | rejoin =>
    rw [exec, execRejoin]
    exact hs.answersIn_modeCommand (by simp only [hs.mode])
  | _ => cases hc

theorem defineGroup (hs : Resting s) (g : Fin 256) (revert : RevertMode) (tiers : List (List Byte)) :
    Resting (s.defineGroup g revert tiers) := by
  unfold State.defineGroup
  split
  · exact hs.refuse _
  · exact iteInduction (fun _ => iteInduction (fun _ => hs.refuse _) fun _ => hs.of_same) fun _ => hs.refuse _

/-- At rest the receiver is OFF, and neither quiet nor a dominant level moves it (R54). -/
theorem exec_quietGapEnd (hs : Resting s) : AnswersIn (execQuietGapEnd s) Resting :=
  answersIn_next.mpr (iteInduction (fun _ => hs) fun _ => hs.of_same (rx := by simp [hs.rx]))

theorem seeDominant (hs : Resting s) : Resting s.seeDominant := hs.of_same (tx := rfl) (rx := by simp [State.seeDominant, hs.rx])

theorem exec_readMap (hs : Resting s) (which : Byte) : AnswersIn (execReadMap which s) Resting := by
  refine answersIn_portCommand hs ?_
  split
  · next u _ =>
    have cleared : Resting (s.setEntry u { s.map.get u with mark := false }) := hs.of_same (map := fun v => by
      by_cases h : u = v <;> simp [Table.get_set, h])
    exact cleared.replied _ _
  · exact iteInduction (fun _ => hs.of_same) fun _ => hs.refuse _

theorem exec_unknownCommand (hs : Resting s) (code : Byte) : AnswersIn (execUnknownCommand code s) Resting :=
  answersIn_portCommand hs (hs.refuse _)

theorem exec_clearGroup (hs : Resting s) (group : Byte) : AnswersIn (execClearGroup group s) Resting :=
  answersIn_configure hs (hs.refuse _) hs.of_same

theorem exec_readStatus (hs : Resting s) : AnswersIn (execReadStatus s) Resting := answersIn_portCommand hs hs.of_same

theorem exec_readEvents (hs : Resting s) (n : Byte) : AnswersIn (execReadEvents n s) Resting :=
  answersIn_portCommand hs (iteInduction (fun _ => hs.of_same) fun _ => hs.refuse _)

theorem exec_readRoster (hs : Resting s) : AnswersIn (execReadRoster s) Resting := answersIn_portCommand hs (hs.replied ..)

theorem exec_readGroup (hs : Resting s) (group : Byte) : AnswersIn (execReadGroup group s) Resting :=
  answersIn_portCommand hs (hs.replied ..)

theorem exec_probe (hs : Resting s) (group : Byte) (hash : Half) : AnswersIn (execProbe group hash s) Resting :=
  answersIn_portCommand hs (hs.replied ..)

theorem exec_setStation (hs : Resting s) (fingerprint : Half) (period silence : Byte) :
    AnswersIn (execSetStation fingerprint period silence s) Resting := by
  refine answersIn_configure hs (hs.refuse _) ?_
  split
  · exact hs.of_same
  · exact hs.refuse _

theorem exec_setUplink (hs : Resting s) (args : UplinkArgs) : AnswersIn (execSetUplink args s) Resting := by
  refine answersIn_configure hs (hs.refuse _) ?_
  split
  · exact (hs.setDetector (by rfl) (by rfl) (by rfl)).replied _ _
  · exact hs.refuse _

theorem exec_writeGroup (hs : Resting s) (args : List Byte) : AnswersIn (execWriteGroup args s) Resting := by
  refine answersIn_configure hs (hs.refuse _) ?_
  split
  · exact hs.of_same
  · exact hs.refuse _
  · exact hs.defineGroup ..

theorem exec_setEventReporting (hs : Resting s) (trigger timeout : Byte) :
    AnswersIn (execSetEventReporting trigger timeout s) Resting := by
  refine answersIn_portCommand hs ?_
  split
  · exact hs.of_same
  · exact hs.refuse _

theorem request (hs : Resting s) (r : Request) : Resting (s.request r) := iteInduction (fun _ => hs.of_same) fun _ => hs

theorem exec_lookupService (hs : Resting s) : AnswersIn (execLookupService s) Resting := by
  refine answersIn_next.mpr ?_
  split
  · exact hs.of_same
  all_goals exact hs

theorem take (hs : Resting s) : Resting s.take := by
  unfold State.take
  split
  · exact hs.of_same
  · split <;> exact hs.of_same

theorem exec_takeService (hs : Resting s) : AnswersIn (execTakeService s) Resting := by
  refine answersIn_next.mpr ?_
  split
  · exact hs.take
  all_goals exact hs

/-- Every command but START leaves the part at rest. -/
theorem afterCommand (hs : Resting s) {c : Instr} (hc : c ≠ .start) : AnswersIn (exec c s) Resting := by
  cases c with
  | start => exact absurd rfl hc
  | fullReset straps => exact answersIn_next.mpr (fullReset ..)
  | rstRelease => exact answersIn_next.mpr (iteInduction (fun _ => hs.of_same) fun _ => hs)
  | frameDiscard => exact answersIn_portCommand hs hs.of_same
  | unknownCommand code => exact hs.exec_unknownCommand code
  | setStation fingerprint period silence => exact hs.exec_setStation ..
  | setUplink args => exact hs.exec_setUplink args
  | writeGroup args => exact hs.exec_writeGroup args
  | clearGroup group => exact hs.exec_clearGroup group
  | setEventReporting trigger timeout => exact hs.exec_setEventReporting ..
  | readStatus => exact hs.exec_readStatus
  | readEvents n => exact hs.exec_readEvents n
  | readMap which => exact hs.exec_readMap which
  | readRoster => exact hs.exec_readRoster
  | readGroup group => exact hs.exec_readGroup group
  | probe group hash => exact hs.exec_probe group hash
  | lookupRequest word => exact answersIn_next.mpr (hs.request _)
  | takeRequest => exact answersIn_next.mpr (hs.request _)
  | lookupService => exact hs.exec_lookupService
  | takeService => exact hs.exec_takeService
  | losChange i high | lockChange i high =>
    refine answersIn_next.mpr ?_
    rw [if_neg (by simp [hs.not_watches])]
    exact hs.setDetector rfl rfl rfl
  | quietGapEnd => exact hs.exec_quietGapEnd
  | laneDominantLevel => exact answersIn_next.mpr (iteInduction (fun _ => hs) fun _ => hs.seeDominant)
  | beaconTimerExpiry => exact answersIn_next.mpr (iteInduction (fun _ => hs.of_same) fun _ => hs)
  | idleTimerExpiry => exact answersIn_next.mpr (iteInduction (fun _ => hs.of_same) fun _ => hs)
  | drain _ | undrain _ | release _ | resteer _ | leave | rejoin | restart => exact hs.exec_of_refused rfl
  | _ =>
    rw [hs.exec_of_idles rfl]
    exact answersIn_next.mpr hs

end Resting

/-! ### Running -/

/-- In a mode other than OFFLINE with the lock closed (R151). -/
structure Running (s : State) : Prop where
  mode : s.roster.mode ≠ .offline
  locked : s.port.locked = true

namespace Running

variable {s t : State}

theorem of_undisturbed (hs : Running s) (h : Undisturbed s t) : Running t :=
  ⟨mt h.offline.mp hs.mode, h.locked.trans hs.locked⟩

theorem of_same (hs : Running s) (roster : t.roster = s.roster := by simp) (locked : t.port.locked = s.port.locked := by simp) :
    Running t := ⟨roster ▸ hs.mode, locked ▸ hs.locked⟩

theorem keptByDetectors : KeptByDetectors Running where
  setDetector _ _ h := h.of_same
  transition i d c h := h.of_same
  push _ _ h := h.of_same
  replied _ _ h := h.of_same

theorem started (s : State) : Running s.started := ⟨by simp [State.started, State.changeMode_frame], rfl⟩

theorem restarted (hs : Running s) : Running s.restarted where
  mode := by simp [State.restarted, State.changeMode_frame]
  locked := by
    rw [State.restarted, State.restartTransmitter_startingValues]
    exact hs.locked

theorem exec_start (hs : Running s) : AnswersIn (execStart s) Running := by
  refine answersIn_portCommand hs ?_
  rw [if_neg hs.mode]
  exact hs.of_same

theorem exec_restart (hs : Running s) : AnswersIn (execRestart s) Running := by
  refine answersIn_portCommand hs ?_
  rw [if_neg hs.mode]
  exact hs.restarted.of_same

/-- Only FULL_RESET ends the phase. -/
theorem afterCommand (hs : Running s) (c : Instr) : AnswersIn (exec c s) fun t => Resting t ∨ Running t := by
  have detectors {c : Instr} (hc : c.movesOneDetector = true) : AnswersIn (exec c s) fun t => Resting t ∨ Running t :=
    (keptByDetectors.afterCommand hc hs).imp fun _ => .inr
  cases c with
  | fullReset straps => exact answersIn_next.mpr (.inl (Resting.fullReset ..))
  | start => exact (hs.exec_start).imp fun _ => .inr
  | restart => exact (hs.exec_restart).imp fun _ => .inr
  | setUplink _ | drain _ | undrain _ | release _ | losChange _ _ | lockChange _ _ | heartbeatPulse _ | heartbeatWatchdogExpiry _
  | qualifyTimerExpiry _ | restoreHoldExpiry _ | stabilityTimerExpiry _ => exact detectors rfl
  | _ => exact (Undisturbed.afterCommand rfl s).imp fun _ h => .inr (hs.of_undisturbed h)

end Running

/-! ### The lock and OFFLINE together -/

theorem lockAndOffline_iff (s : State) : LockLaw s ∧ OfflineLaw s ↔ Resting s ∨ Running s := by
  constructor
  · rintro ⟨hlock, hoffline⟩
    by_cases hmode : s.roster.mode = .offline
    · obtain ⟨map, detectors, tx, rx, slots, work, dirty, resteers⟩ := hoffline hmode
      exact .inl ⟨hmode, hlock.trans (by simp [hmode]), map, detectors, tx, rx, slots, work, dirty, resteers⟩
    · exact .inr ⟨hmode, hlock.trans (by simp [hmode])⟩
  · rintro (h | h)
    · exact ⟨by simp [LockLaw, h.mode, h.locked],
        fun _ => ⟨h.map, h.detectors, h.tx, h.rx, h.slots, h.work, h.dirty, h.resteers⟩⟩
    · exact ⟨by simp [LockLaw, h.mode, h.locked], fun hmode => absurd hmode h.mode⟩

/-- Every command leaves the part at rest or running: START alone ends the rest, FULL_RESET alone the run. -/
theorem phase_afterCommand {s : State} (hs : Resting s ∨ Running s) (c : Instr) :
    AnswersIn (exec c s) fun t => Resting t ∨ Running t := by
  obtain hs | hs := hs
  · by_cases hc : c = .start
    · subst hc
      rw [exec, execStart]
      refine answersIn_portCommand (.inl hs) ?_
      rw [if_pos hs.mode]
      exact .inr (Running.started s).of_same
    · exact (hs.afterCommand hc).imp fun _ => .inl
  · exact hs.afterCommand c

end Sys2Proof.Machine

/-! SUPPORT. The group definitions that WRITE GROUP and CLEAR GROUP store (R118, R124, R154), and the starting values (R20, R120,
R136): what they make of the steering laws' invariant. -/

namespace Sys2Proof.Machine

/-! ### The member index (R124) -/

theorem mem_insertAscending {g h : Fin 256} {l : List (Fin 256)} : h ∈ insertAscending g l ↔ h = g ∨ h ∈ l := by
  induction l with
  | nil => simp [insertAscending]
  | cons x rest ih =>
    unfold insertAscending
    split
    · simp
    · split
      · next heq => simp [heq]
      · rw [List.mem_cons, ih, List.mem_cons]
        exact or_left_comm

/-- The group is named for its members, and every other group where it was. -/
theorem mem_reindex {index : Table (List (Fin 256)) 64} {g h : Fin 256} {members : List (Fin 64)} {u : Fin 64} :
    h ∈ (reindex index g members).get u ↔ if h = g then u ∈ members else h ∈ index.get u := by
  rw [reindex, Table.get_tabulate]
  by_cases hmember : u ∈ members
  · by_cases heq : h = g <;> simp [hmember, heq, mem_insertAscending]
  · by_cases heq : h = g <;> simp [hmember, heq]

/-! ### WRITE GROUP's frame (R154) -/

theorem readTiers_length {k : Nat} {bytes : List Byte} {tiers : List (List Byte)} (h : readTiers k bytes = .complete tiers) :
    tiers.length = k := by
  induction k generalizing bytes tiers with
  | zero =>
    cases h
    rfl
  | succ k ih =>
    cases bytes with
    | nil => cases h
    | cons c rest =>
      simp only [readTiers] at h
      split at h
      · cases h
      · split at h
        · cases h
        · split at h
          · next htiers =>
            cases h
            rw [List.length_cons, ih htiers]
          all_goals cases h

/-- A complete frame has one to three tiers. -/
theorem readGroupFrame_length {args : List Byte} {g : Fin 256} {revert : RevertMode} {tiers : List (List Byte)}
    (h : readGroupFrame args = .complete g revert tiers) : tiers.length ≤ 3 := by
  unfold readGroupFrame at h
  split at h
  · split at h
    · cases h
    · cases h
    · split at h
      · cases h
      · next hcount =>
        split at h
        · next htiers =>
          cases h
          rw [readTiers_length htiers]
          omega
        all_goals cases h
  · cases h

theorem length_of_mapM_eq_some {α β : Type} {f : α → Option β} {l : List α} {l' : List β} (h : l.mapM f = some l') :
    l'.length = l.length := by
  induction l generalizing l' with
  | nil =>
    cases h
    rfl
  | cons a l ih =>
    simp only [List.mapM_cons, Option.bind_eq_bind, Option.bind_eq_some_iff, Option.pure_def, Option.some_inj] at h
    obtain ⟨_, _, rest, hrest, rfl⟩ := h
    rw [List.length_cons, List.length_cons, ih hrest]

/-! ### The starting values (R20, R120) -/

theorem State.startedEntry_state (s : State) (u : Fin 64) : (s.startedEntry u).state ≠ .inService := by
  unfold State.startedEntry
  split
  · dsimp only
    split <;> simp
  · simp

/-- A started record is the group's definition with nothing steered, or the reset record (R120). -/
theorem Group.started_of_configured {r : Group} (h : r.configured = true) :
    r.started = { r with current := none, buckets := .fill none, condition := .blackhole } := if_pos h

theorem Group.started_of_unconfigured {r : Group} (h : r.configured = false) : r.started = .reset :=
  if_neg (ne_true_of_eq_false h)

/-- The lock that lets a group be written is open at rest alone (R151). -/
theorem resting_of_open {s : State} (hphase : Resting s ∨ Running s) (hopen : s.port.locked = false) : Resting s :=
  hphase.resolve_right fun hrun => by simp [hrun.locked] at hopen

namespace Steady

variable {s t : State} {g : Fin 256} {r : Group}

/-! ### Groups written and cleared (R118) -/

/-- At rest a record that steers nothing replaces a group, its members in the index. -/
theorem redefine (hs : Steady s) (hrest : Resting s) {members : List (Fin 64)} (hfit : r.tiers.length ≤ 3)
    (hunconfigured : r.configured = false → r = .reset)
    (hmembers : ∀ u, u ∈ members ↔ r.configured = true ∧ u ∈ r.allMembers)
    (hblackhole : r.configured = true → r.current = none ∧ r.buckets = .fill none ∧ r.condition = .blackhole) :
    Steady ((s.setGroup g r).withEngine { s.engine with index := reindex s.engine.index g members }) where
  selected := hs.selected
  steered := by
    refine ⟨Table.forall_set (p := fun x : Group => x.tiers.length ≤ 3 ∧ (x.configured = false → x = .reset)) hs.steered.tiers g
        ⟨hfit, hunconfigured⟩, fun u h => ?_, hs.steered.nodup, hs.steered.full, fun h hh => ?_,
      Steered.readingLaw_of_idle hrest.work fun h hh => by simp [hrest.resteers] at hh⟩
    · simp only [State.withEngine_engine, State.withEngine_groups, State.setGroup_groups, mem_reindex, Table.get_set]
      by_cases hgroup : g = h
      · simp [hgroup, hmembers]
      · simpa [hgroup, Ne.symm hgroup] using hs.steered.index u h
    · simp only [State.withEngine_groups, State.setGroup_groups, Table.get_set] at hh ⊢
      split at hh
      · next hgroup =>
        rw [if_pos hgroup]
        obtain ⟨hcurrent, hbuckets, hcondition⟩ := hblackhole hh
        exact Group.steers_of_blackhole hcurrent hbuckets hcondition fun m _ => ne_true_of_eq_false (hrest.not_usable m)
      · next hgroup =>
        rw [if_neg hgroup]
        exact (hs.steered.buckets h hh).mono fun m _ => .inr ⟨Iff.rfl, fun h => .inl (Steered.awaited_of_idle hrest.work h)⟩

theorem replied (hs : Steady s) (status : Status) (data : List Byte) : Steady (s.replied status data) := hs.of_same

theorem refuse (hs : Steady s) (status : Status) : Steady (s.refuse status) := hs.replied status []

theorem defineGroup (hs : Steady s) (hrest : Resting s) (g : Fin 256) (revert : RevertMode) {tiers : List (List Byte)}
    (hfit : tiers.length ≤ 3) : Steady (s.defineGroup g revert tiers) := by
  unfold State.defineGroup
  split
  · exact hs.refuse _
  · next members hmembers =>
    refine iteInduction (fun _ => iteInduction (fun _ => hs.refuse _) fun _ => ?_) fun _ => hs.refuse _
    refine (hs.redefine hrest ?_ ?_ ?_ ?_).replied _ _
    · exact (length_of_mapM_eq_some hmembers).trans_le hfit
    · exact fun h => by cases h
    · exact fun u => (and_iff_right rfl).symm
    · exact fun _ => ⟨rfl, rfl, rfl⟩

theorem exec_writeGroup (hs : Steady s) (hphase : Resting s ∨ Running s) (args : List Byte) :
    AnswersIn (execWriteGroup args s) Steady := by
  refine answersIn_configure_of_open hs (hs.refuse _) fun hopen => ?_
  split
  · exact hs.of_same
  · exact hs.refuse _
  · next hframe => exact hs.defineGroup (resting_of_open hphase hopen) _ _ (readGroupFrame_length hframe)

theorem exec_clearGroup (hs : Steady s) (hphase : Resting s ∨ Running s) (group : Byte) :
    AnswersIn (execClearGroup group s) Steady := by
  refine answersIn_configure_of_open hs (hs.refuse _) fun hopen => ?_
  have cleared := hs.redefine (r := .reset) (g := groupArg group) (members := []) (resting_of_open hphase hopen) (Nat.zero_le 3)
    (fun _ => rfl) (fun u => by simp [Group.reset]) fun h => by cases h
  exact cleared.replied ..

/-! ### The starts (R20, R120, R136) -/

/-- START and RESTART keep the definitions and the index, and leave no uplink usable and nothing that waits. -/
theorem startingValues (hs : Steady s) : Steady s.startingValues where
  selected := fun _ => ⟨fun u => Table.get_fill _ u, fun g => Table.get_fill _ g⟩
  steered := by
    have hgroup (g : Fin 256) : s.startingValues.groups.get g = (s.groups.get g).started := Table.get_tabulate _ g
    have hunusable (u : Fin 64) : ¬ s.startingValues.usable u = true := by
      simpa [State.usable, State.startingValues] using s.startedEntry_state u
    refine ⟨fun g => ?_, fun u g => ?_, State.idRing_nodup, State.mem_idRing, fun g hg => ?_, fun ev hev => ?_,
      fun u p ev hwork => ?_, fun g hg => ?_⟩
    · rw [hgroup]
      cases h : (s.groups.get g).configured with
      | false =>
        rw [Group.started_of_unconfigured h]
        exact ⟨Nat.zero_le 3, fun _ => rfl⟩
      | true =>
        rw [Group.started_of_configured h]
        exact ⟨(hs.steered.tiers g).1, fun hnot => by simp [h] at hnot⟩
    · rw [hgroup]
      refine (hs.steered.index u g).trans ?_
      cases h : (s.groups.get g).configured with
      | false => simp [Group.started_of_unconfigured h, Group.reset]
      | true =>
        rw [Group.started_of_configured h]
        exact and_congr_left fun _ => by simp [h]
    · rw [hgroup] at hg ⊢
      cases h : (s.groups.get g).configured with
      | false =>
        rw [Group.started_of_unconfigured h] at hg
        cases hg
      | true =>
        rw [Group.started_of_configured h]
        exact Group.steers_of_blackhole rfl rfl rfl fun m _ => hunusable m
    · cases hev
    · cases hwork
    · have hnone : s.startingValues.engine.resteers.get g = false := Table.get_fill _ g
      simp [hnone] at hg

theorem started (hs : Steady s) : Steady s.started := hs.startingValues.of_same (fun _ => rfl) rfl rfl

theorem restarted (hs : Steady s) : Steady s.restarted := by
  rw [State.restarted, State.restartTransmitter_startingValues]
  exact hs.startingValues.of_same (fun _ => rfl) rfl rfl

theorem fullReset (code : Fin 16) (los lock : Fin 4 → Bool) (mcs held : Bool) (pending : List Instr) (pins : List PortPin)
    (drawn : Nat) : Steady (.fullReset code los lock mcs held pending pins drawn) :=
  ((steeringInv_iff _).mp State.steeringInv_reset).2.of_same (fun _ => rfl) rfl rfl

end Steady

end Sys2Proof.Machine

/-! SUPPORT. The steering laws' invariant after every command and every step. -/

namespace Sys2Proof

/-- The commands that reach the Lane Interface alone. -/
def Instr.reachesLaneAlone : Instr → Bool
  | .quietGapEnd | .laneDominantLevel | .arbitrationLost | .arbitrationWon | .txMismatch | .receiveAbort | .receiveTruncation
  | .badStartMark | .receivedNoticeEnd => true
  | _ => false

end Sys2Proof

namespace Sys2Proof.Machine

/-- From `s` to `t` only the Lane Interface differs. -/
def LaneAlone (s t : State) : Prop := ∃ l, t = s.withLane l

theorem exec_of_reachesLaneAlone {c : Instr} (hc : c.reachesLaneAlone = true) (s : State) :
    AnswersIn (exec c s) (LaneAlone s) := by
  have still : LaneAlone s s := ⟨s.lane, rfl⟩
  have moved (l : Lane) : LaneAlone s (s.withLane l) := ⟨l, rfl⟩
  have dropped (f : LaneFlags) : LaneAlone s (s.withFlags f).discard := ⟨_, rfl⟩
  cases c with
  | quietGapEnd | laneDominantLevel => exact answersIn_next.mpr (iteInduction (fun _ => still) fun _ => moved _)
  | arbitrationLost | arbitrationWon | receivedNoticeEnd =>
    exact answersIn_next.mpr (iteInduction (fun _ => moved _) fun _ => still)
  | badStartMark => exact answersIn_next.mpr (iteInduction (fun _ => dropped _) fun _ => still)
  | txMismatch =>
    refine answersIn_next.mpr ?_
    split <;> [exact moved _; exact moved _; exact still; exact still; exact still]
  | receiveAbort | receiveTruncation =>
    refine answersIn_next.mpr ?_
    split <;> [exact dropped _; exact moved _; exact still; exact still; exact still; exact still]
  | _ => cases hc

namespace Steady

variable {s t : State}

/-! ### The management port -/

theorem exec_setStation (hs : Steady s) (fingerprint : Half) (period silence : Byte) :
    AnswersIn (execSetStation fingerprint period silence s) Steady := by
  refine answersIn_configure hs (hs.refuse _) ?_
  split
  · exact hs.of_same
  · exact hs.refuse _

theorem exec_start (hs : Steady s) : AnswersIn (execStart s) Steady :=
  answersIn_portCommand hs (iteInduction (fun _ => hs.started.replied ..) fun _ => hs.refuse _)

theorem exec_restart (hs : Steady s) : AnswersIn (execRestart s) Steady :=
  answersIn_portCommand hs (iteInduction (fun _ => hs.refuse _) fun _ => hs.restarted.replied ..)

theorem exec_resteer (hs : Steady s) (group : Byte) : AnswersIn (execResteer group s) Steady := by
  refine answersIn_portCommand hs (iteInduction (fun _ => hs.refuse _) fun _ =>
    iteInduction (fun _ => hs.refuse _) fun hconfigured => ?_)
  exact (hs.resteer (Bool.eq_true_of_not_eq_false hconfigured)).replied ..

theorem leave (hs : Steady s) : Steady s.leave := by
  unfold State.leave
  dsimp only
  split <;> exact hs.of_same (fun _ => rfl) rfl rfl

theorem exec_leave (hs : Steady s) : AnswersIn (execLeave s) Steady := by
  refine answersIn_portCommand hs ?_
  split
  · exact hs.refuse _
  · exact hs.replied ..
  all_goals exact hs.leave.replied ..

/-- An entry to JOINING leaves the map, the groups and the engine (R85). -/
theorem rejoined (hs : Steady s) (c : ModeCause) : Steady (s.enterJoining.changeMode .joining c) :=
  hs.of_same (fun _ => rfl) rfl rfl

theorem exec_rejoin (hs : Steady s) : AnswersIn (execRejoin s) Steady := by
  refine answersIn_portCommand hs ?_
  split
  · exact (hs.rejoined _).replied ..
  · exact (hs.rejoined _).replied ..
  all_goals exact hs.refuse _

theorem exec_unknownCommand (hs : Steady s) (code : Byte) : AnswersIn (execUnknownCommand code s) Steady :=
  answersIn_portCommand hs (hs.refuse _)

theorem exec_setEventReporting (hs : Steady s) (trigger timeout : Byte) :
    AnswersIn (execSetEventReporting trigger timeout s) Steady := by
  refine answersIn_portCommand hs ?_
  split
  · exact hs.of_same
  · exact hs.refuse _

theorem exec_readStatus (hs : Steady s) : AnswersIn (execReadStatus s) Steady := answersIn_portCommand hs hs.of_same

theorem exec_readEvents (hs : Steady s) (n : Byte) : AnswersIn (execReadEvents n s) Steady :=
  answersIn_portCommand hs (iteInduction (fun _ => hs.of_same) fun _ => hs.refuse _)

/-- READ MAP clears marks and leaves every entry's state (R16). -/
theorem exec_readMap (hs : Steady s) (which : Byte) : AnswersIn (execReadMap which s) Steady := by
  refine answersIn_portCommand hs ?_
  split
  · next u _ =>
    have cleared : Steady (s.setEntry u { s.map.get u with mark := false }) := hs.setEntry rfl
    exact cleared.replied ..
  · exact iteInduction (fun _ => hs.of_same) fun _ => hs.refuse _

theorem exec_readRoster (hs : Steady s) : AnswersIn (execReadRoster s) Steady := answersIn_portCommand hs (hs.replied ..)

theorem exec_readGroup (hs : Steady s) (group : Byte) : AnswersIn (execReadGroup group s) Steady :=
  answersIn_portCommand hs (hs.replied ..)

theorem exec_probe (hs : Steady s) (group : Byte) (hash : Half) : AnswersIn (execProbe group hash s) Steady :=
  answersIn_portCommand hs (hs.replied ..)

/-! ### The lookup port -/

theorem request (hs : Steady s) (r : Request) : Steady (s.request r) := iteInduction (fun _ => hs.of_same) fun _ => hs

theorem exec_lookupService (hs : Steady s) : AnswersIn (execLookupService s) Steady := by
  refine answersIn_next.mpr ?_
  split
  · exact hs.of_same
  all_goals exact hs

theorem take (hs : Steady s) : Steady s.take := by
  unfold State.take
  split
  · exact hs.of_same
  · split <;> exact hs.of_same

theorem exec_takeService (hs : Steady s) : AnswersIn (execTakeService s) Steady := by
  refine answersIn_next.mpr ?_
  split
  · exact hs.take
  all_goals exact hs

/-! ### The lane -/

/-- An offer writes sent epochs and starts a notice (R48, R67). -/
theorem exec_noticeStartOffer (hs : Steady s) : AnswersIn (execNoticeStartOffer s) Steady := by
  have written : Steady s.writeSentEpochs :=
    List.foldlRecOn (motive := Steady) _ _ hs fun _ h _ _ => h.of_same
  exact answersIn_next.mpr (iteInduction (fun _ => written.of_same (fun _ => rfl) rfl rfl) fun _ => hs)

theorem wonNoticeEnds (hs : Steady s) (n : Notice) (tally : Option StationSet) : Steady (s.wonNoticeEnds n tally) := hs.of_same

theorem exec_abortPatternEnd (hs : Steady s) : AnswersIn (execAbortPatternEnd s) Steady := by
  refine answersIn_next.mpr (iteInduction (fun _ => ?_) fun _ => hs)
  split
  · exact hs.wonNoticeEnds ..
  · exact hs.of_same (fun _ => rfl) rfl rfl

theorem exec_noticeCompleted (hs : Steady s) (slots : StationSet) : AnswersIn (execNoticeCompleted slots s) Steady := by
  refine answersIn_next.mpr ?_
  split
  · exact hs.wonNoticeEnds ..
  · exact hs

theorem exec_noticeDecision (hs : Steady s) (n : RxNotice) : AnswersIn (execNoticeDecision n s) Steady := by
  have moved : Steady (if s.lane.tx = .sending then s.withLane { s.lane with tx := .closing } else s) :=
    iteInduction (fun _ => hs.of_same) fun _ => hs
  exact answersIn_next.mpr (iteInduction (fun _ => moved.receive n) fun _ => moved)

/-! ### Timers and the engine -/

theorem exec_silenceTimerExpiry (hs : Steady s) (k : Fin 16) : AnswersIn (execSilenceTimerExpiry k s) Steady := by
  have lost : Steady (if (s.roster.slots.get k).silence.isSome then s.fallSilent k else s) :=
    iteInduction (fun _ => hs.fallSilent k) fun _ => hs
  refine answersIn_next.mpr ?_
  split
  · exact lost
  · exact lost
  · exact lost
  all_goals exact hs

theorem exec_joinWindowExpiry (hs : Steady s) : AnswersIn (execJoinWindowExpiry s) Steady :=
  have ended : Steady s.windowEnded := hs.of_same (fun _ => rfl) rfl rfl
  answersIn_next.mpr (iteInduction (fun _ => ended.testGuard) fun _ => hs)

theorem exec_evaluationCommit (hs : Steady s) : AnswersIn (execEvaluationCommit s) Steady := by
  refine answersIn_next.mpr ?_
  split
  · exact hs
  · next hwork => exact hs.commit_advance (by rw [hwork]; rfl) _
  · next hwork => exact hs.commit_advance (by rw [hwork]; rfl) _

/-! ### Every command and every step -/

/-- Every command keeps the invariant, given what the lock and OFFLINE say of the state that it finds. -/
theorem afterCommand (hs : Steady s) (hphase : Resting s ∨ Running s) (c : Instr) : AnswersIn (exec c s) Steady := by
  have lane {c : Instr} (hc : c.reachesLaneAlone = true) : AnswersIn (exec c s) Steady :=
    (exec_of_reachesLaneAlone hc s).imp fun _ ⟨_, h⟩ => h ▸ hs.of_same
  cases c with
  | fullReset straps => exact answersIn_next.mpr (fullReset ..)
  | rstRelease => exact answersIn_next.mpr (iteInduction (fun _ => hs.of_same) fun _ => hs)
  | frameDiscard => exact answersIn_portCommand hs hs.of_same
  | unknownCommand code => exact hs.exec_unknownCommand code
  | setStation fingerprint period silence => exact hs.exec_setStation ..
  | writeGroup args => exact hs.exec_writeGroup hphase args
  | clearGroup group => exact hs.exec_clearGroup hphase group
  | start => exact hs.exec_start
  | restart => exact hs.exec_restart
  | resteer group => exact hs.exec_resteer group
  | leave => exact hs.exec_leave
  | rejoin => exact hs.exec_rejoin
  | setEventReporting trigger timeout => exact hs.exec_setEventReporting ..
  | readStatus => exact hs.exec_readStatus
  | readEvents n => exact hs.exec_readEvents n
  | readMap which => exact hs.exec_readMap which
  | readRoster => exact hs.exec_readRoster
  | readGroup group => exact hs.exec_readGroup group
  | probe group hash => exact hs.exec_probe group hash
  | lookupRequest word => exact answersIn_next.mpr (hs.request _)
  | takeRequest => exact answersIn_next.mpr (hs.request _)
  | lookupService => exact hs.exec_lookupService
  | takeService => exact hs.exec_takeService
  | quietGapEnd | laneDominantLevel | arbitrationLost | arbitrationWon | txMismatch | receiveAbort | receiveTruncation
  | badStartMark | receivedNoticeEnd => exact lane rfl
  | noticeStartOffer => exact hs.exec_noticeStartOffer
  | abortPatternEnd => exact hs.exec_abortPatternEnd
  | noticeCompleted slots => exact hs.exec_noticeCompleted slots
  | noticeDecision n => exact hs.exec_noticeDecision n
  | silenceTimerExpiry k => exact hs.exec_silenceTimerExpiry k
  | beaconTimerExpiry => exact answersIn_next.mpr (iteInduction (fun _ => hs.of_same) fun _ => hs)
  | joinWindowExpiry => exact hs.exec_joinWindowExpiry
  | cooldownExpiry => exact answersIn_next.mpr (iteInduction (fun _ => hs.rejoined _) fun _ => hs)
  | evaluationCommit => exact hs.exec_evaluationCommit
  | idleTimerExpiry => exact answersIn_next.mpr (iteInduction (fun _ => hs.of_same) fun _ => hs)
  | _ => exact keptByDetectors.afterCommand rfl hs

end Steady

/-- What the two phases and the steering laws rest on speaks neither of the queues, nor of the frame, nor of the clock. -/
theorem phase_of_same {s t : State} (h : (Resting s ∨ Running s) ∧ Steady s) (roster : t.roster = s.roster := by rfl)
    (locked : t.port.locked = s.port.locked := by rfl) (map : t.map = s.map := by rfl)
    (detectors : t.detectors = s.detectors := by rfl) (lane : t.lane = s.lane := by rfl)
    (groups : t.groups = s.groups := by rfl) (engine : t.engine = s.engine := by rfl) :
    (Resting t ∨ Running t) ∧ Steady t := by
  obtain ⟨hphase, hs⟩ := h
  refine ⟨hphase.imp (fun hrest => ?_) fun hrun => hrun.of_same roster locked, hs.of_same (fun u => by rw [map]) groups engine⟩
  exact hrest.of_same roster locked (fun u => by rw [map]) detectors (by rw [lane]) (by rw [lane]) (by rw [engine])
    (by rw [engine]) (by rw [engine])

theorem steeringInv_iff_phase (s : State) : SteeringInv s ↔ (Resting s ∨ Running s) ∧ Steady s := by
  rw [steeringInv_iff, lockAndOffline_iff]

theorem steeringInv_afterStep {s : State} (hs : SteeringInv s) : AnswersIn (step s) SteeringInv := by
  have kept := step_keeps (p := fun t => (Resting t ∨ Running t) ∧ Steady t) (fun _ _ _ _ h => phase_of_same h)
    (fun _ _ h => phase_of_same h)
    (fun _ h => iteInduction (motive := fun t => (Resting t ∨ Running t) ∧ Steady t) (fun _ => h) fun _ => phase_of_same h)
    (fun c _ ⟨hphase, h⟩ => (phase_afterCommand hphase c).and (h.afterCommand hphase c)) ((steeringInv_iff_phase s).mp hs)
  exact kept.imp fun t => (steeringInv_iff_phase t).mpr

end Sys2Proof.Machine

/-! PROOF. What every step keeps of the steering laws, what selection takes, and the RESTEER that has it select. -/

namespace Sys2Proof.SweepEngine

open Sys2Proof.Machine

/-! ### What every step keeps (R134) -/

/-- Settles O60: the invariant holds the laws in it, and every command, every edge that moves the frame and a tick keep it. -/
theorem stepKeepsSteeringLaws : Obligations.StepKeepsSteeringLaws := by
  unfold Obligations.StepKeepsSteeringLaws
  have holds {t : State} (h : SteeringInv t) : SteeringLaws t := ((steeringInv_iff t).mp h).2.steered.steeringLaws
  intro s hs
  refine ⟨holds hs, fun s' hstep => ?_⟩
  have hs' := (steeringInv_afterStep hs).of_eq_next hstep
  exact ⟨hs', holds hs'⟩

/-! ### Selection (R127, R128) -/

/-- Settles O50: the choice by the ring or by the resteer set, and for an uplink whether some group names it. -/
theorem selectionTakesTheFirstThatExists : Obligations.SelectionTakesTheFirstThatExists := by
  unfold Obligations.SelectionTakesTheFirstThatExists
  intro s evaluation
  refine ⟨State.select_of_busy, fun hidle => ⟨fun u hu hindex => ?_, fun u g rest hu hindex => ?_, fun hclean =>
    ⟨fun g hg hlow => ?_, fun hnone => ?_⟩⟩⟩
  · exact State.select_of_unnamed hidle (State.choose_of_chosenUplink hu) hindex
  · exact State.select_of_named hidle (State.choose_of_chosenUplink hu) hindex
  · refine State.select_of_resteer hidle ?_
    rw [State.choose_of_no_dirty hclean, State.lowestResteer_eq_some hg hlow]
    rfl
  · refine State.select_of_nothing hidle ?_
    rw [State.choose_of_no_dirty hclean, State.lowestResteer_eq_none_iff.mpr hnone]
    rfl

/-- Settles O17: RESTEER passes its three tests, and a busy engine goes on with its work. -/
theorem resteerQueuesAConfiguredGroup : Obligations.ResteerQueuesAConfiguredGroup := by
  unfold Obligations.ResteerQueuesAConfiguredGroup
  intro s g hrst hmode hconfigured queued
  have hexec : exec (.resteer g) s = .next (answered queued.select [0#8]) := by
    rw [exec, execResteer, portCommand_of_released hrst]
    exact congrArg _ ((if_neg hmode).trans (if_neg fun hunconfigured => ne_true_of_eq_false hunconfigured hconfigured))
  refine ⟨hexec, fun hbusy => ?_⟩
  rw [hexec, State.select_of_busy (s := queued) hbusy]

end Sys2Proof.SweepEngine

/-! SUPPORT. The requests of the lookup port, the TAKE served and the offer, by their rows (R138, R142, R143, R172). -/

namespace Sys2Proof.Machine

/-! ### The words of the lookup port (R172) -/

theorem requestGroup_append (g : Byte) (hash : Half) : requestGroup (g ++ hash) = g.toFin := by
  rw [requestGroup, BitVec.extractLsb'_append_eq_left]

theorem requestHash_append (g : Byte) (hash : Half) : requestHash (g ++ hash) = hash := by
  rw [requestHash, BitVec.extractLsb'_append_eq_right]

theorem Answer.invalidate_word : ∀ g : Fin 256, (Answer.invalidate g).word = BitVec.ofNat 16 (0x8000 + g.val) := by
  decide +kernel

namespace State

variable {s : State} {g : Fin 256}

/-! ### Requests (R138) -/

theorem lkrdy_iff (hrst : s.rstHeld = false) : s.lkrdy = true ↔ s.lookup.requests.length < 4 := by
  rw [lkrdy, hrst]
  exact decide_eq_true_iff

theorem request_of_lkrdy (h : s.lkrdy = true) (r : Request) :
    s.request r = { s with lookup := { s.lookup with requests := s.lookup.requests ++ [r] } } := if_pos h

theorem request_of_not_lkrdy (h : s.lkrdy = false) (r : Request) : s.request r = s := if_neg (ne_true_of_eq_false h)

theorem exec_lookupRequest_append (s : State) (g : Byte) (hash : Half) :
    exec (.lookupRequest (g ++ hash)) s = .next (s.request (.lookup g.toFin hash)) := by
  rw [exec, execLookupRequest, requestGroup_append, requestHash_append]

/-! ### The TAKE served (R143) -/

theorem take_of_flushAll (h : s.invalidation.flushAll = true) :
    s.take = ({ s with invalidation := ⟨s.invalidation.ids, false⟩ } : State).answer .flushAll := if_pos h

theorem take_of_cons {ids : List (Fin 256)} (h : s.invalidation = ⟨g :: ids, false⟩) :
    s.take = ({ s with invalidation := ⟨ids, false⟩ } : State).answer (.invalidate g) := by
  simp [take, h]

theorem take_of_empty (h : s.invalidation = ⟨[], false⟩) : s.take = s.answer .empty := by
  simp [take, h]

theorem exec_takeService_of_take {rest : List Request} (h : s.lookup.requests = .take :: rest) :
    exec .takeService s = .next s.take := by
  simp only [exec, execTakeService, h]

/-! ### The offer (R142) -/

theorem offer_of_discarded (h : s.invalidation.flushAll = true ∨ g ∈ s.invalidation.ids) : s.offer g = s :=
  if_pos (by simpa using h)

theorem offer_of_room (hflush : s.invalidation.flushAll = false) (hnew : g ∉ s.invalidation.ids)
    (hroom : s.invalidation.ids.length < 16) :
    s.offer g = { s with invalidation := ⟨s.invalidation.ids ++ [g], false⟩ } := by
  simp [offer, hflush, hnew, hroom, Config.invalidationLimit]

theorem offer_of_full (hflush : s.invalidation.flushAll = false) (hnew : g ∉ s.invalidation.ids)
    (hfull : 16 ≤ s.invalidation.ids.length) :
    s.offer g = ({ s with invalidation := ⟨[], true⟩ } : State).push (idByte g)
      (.invalidationFlush s.invalidation.ids.length) := by
  simp [offer, hflush, hnew, Config.invalidationLimit, Nat.not_lt.mpr hfull]

end State

end Sys2Proof.Machine

/-! SUPPORT. The management port while RST is held, and the outputs that follow the state once it is released (R138, R140,
R146, R148, R149, R168, R169). -/

namespace Sys2Proof

/-- The commands of the management port. -/
def Instr.comesAtPort : Instr → Bool
  | .frameDiscard | .unknownCommand _ | .setStation _ _ _ | .setUplink _ | .writeGroup _ | .clearGroup _ | .start | .drain _
  | .undrain _ | .release _ | .resteer _ | .leave | .rejoin | .restart | .setEventReporting _ _ | .readStatus | .readEvents _
  | .readMap _ | .readRoster | .readGroup _ | .probe _ _ => true
  | _ => false

end Sys2Proof

namespace Sys2Proof.Machine

/-! ### RST held (R140, R149) -/

theorem portCommand_of_held {s : State} (hrst : s.rstHeld = true) (effect : State → State) :
    portCommand s effect = .next s := congrArg _ (if_pos hrst)

theorem exec_of_held {s : State} (hrst : s.rstHeld = true) {c : Instr} (hc : c.comesAtPort = true) : exec c s = .next s := by
  cases c with
  | frameDiscard | unknownCommand | setStation | setUplink | writeGroup | clearGroup | start | drain | undrain | release
  | resteer | leave | rejoin | restart | setEventReporting | readStatus | readEvents | readMap | readRoster | readGroup
  | probe =>
    simp only [exec, execFrameDiscard, execUnknownCommand, execSetStation, execSetUplink, execWriteGroup, execClearGroup,
      execStart, execDrain, execUndrain, execRelease, execResteer, execLeave, execRejoin, execRestart, execSetEventReporting,
      execReadStatus, execReadEvents, execReadMap, execReadRoster, execReadGroup, execProbe, configure, detectorCommand,
      portCommand_of_held hrst]
  | _ => cases hc

theorem exec_all_of_held {s : State} (hrst : s.rstHeld = true) {l : List Instr} (hl : l.all Instr.comesAtPort = true) :
    ∀ c ∈ l, exec c s = .next s := fun c hc => exec_of_held hrst (List.all_eq_true.mp hl c hc)

namespace State

variable {s : State}

theorem outputs_of_held (hrst : s.rstHeld = true) : s.lkrdy = false ∧ s.invPend = false ∧ s.irq = false ∧ s.mdo = none := by
  simp [lkrdy, invPend, irq, mdo, hrst]

/-! ### RST released: the outputs (R138, R146, R168, R169) -/

theorem invPend_iff (hrst : s.rstHeld = false) :
    s.invPend = true ↔ s.invalidation.ids ≠ [] ∨ s.invalidation.flushAll = true := by
  simp [invPend, hrst]

theorem irq_iff (hrst : s.rstHeld = false) :
    s.irq = true ↔
      s.events.trigger.count ≤ s.events.records.length ∨ s.events.idleExpired = true ∨ s.events.overflow = true := by
  simp [irq, hrst, or_assoc]

end State

theorem TriggerLevel.count_eq :
    ∀ p ∈ [(TriggerLevel.one, 1), (.four, 4), (.eight, 8), (.sixteen, 16)], p.1.count = p.2 := by decide

/-! ### RST released: MDO (R148) -/

/-- In a frame MDO is driven, at the bit that the frame's position gives. -/
theorem State.phase_and_mdo {s : State} (hrst : s.rstHeld = false) {f : Frame} (hframe : s.port.frame = f) {p : Phase} {b : Bool}
    (hphase : f.phase = some p) (hbit : f.outBit = b) : s.port.frame.phase = some p ∧ s.mdo = some b := by
  simp [mdo, hrst, hframe, hphase, hbit]

theorem filler_getMsbD {k : Nat} (h : k < 8) : Config.filler.getMsbD k = true := by
  interval_cases k <;> rfl

namespace Frame

variable {reply : List Byte} {k : Nat}

theorem phase_opening (bytes : List Byte) (bits : List Bool) :
    (Frame.opening bytes bits).phase = some (if bytes = [] then .command else .arguments) := by
  cases bytes <;> rfl

/-- The falling edges of the reply's bits, and the one before them, belong to REPLY (R148, log 11). -/
theorem phase_taken_of_le (h : k ≤ 8 * reply.length) : (Frame.taken reply k).phase = some .reply :=
  congrArg some (if_pos h)

theorem phase_taken_of_lt (h : 8 * reply.length < k) : (Frame.taken reply k).phase = some .done :=
  congrArg some (if_neg (Nat.not_le.mpr h))

/-- Bit `k` of the reply, most significant first (R148). -/
theorem outBit_of_reply {b : Byte} (h : reply[k / 8]? = some b) :
    (Frame.taken reply (k + 1)).outBit = b.getLsbD (7 - k % 8) := by
  have hbit : k % 8 < 8 := Nat.mod_lt _ (by decide)
  rw [outBit, List.getD_eq_getElem?_getD, h, Option.getD_some, BitVec.getMsbD_eq_getLsbD, decide_eq_true hbit]
  rfl

theorem outBit_after_reply (h : 8 * reply.length ≤ k) : (Frame.taken reply (k + 1)).outBit = true := by
  have hover : reply[k / 8]? = none := List.getElem?_eq_none (by omega)
  rw [outBit, List.getD_eq_getElem?_getD, hover, Option.getD_none, filler_getMsbD (Nat.mod_lt _ (by decide))]

end Frame

end Sys2Proof.Machine

/-! SUPPORT. The bounds of the queues and counts, the invalidation queue's law and the engine's law (R52, R92, R126, R128, R138,
R141, R163), each kept by itself, and what each shared operation keeps of them. -/

namespace Sys2Proof.Machine

/-- The ring holds every uplink once (R126). -/
abbrev RingWhole (ring : List (Fin 64)) : Prop := ring.Nodup ∧ ∀ u, u ∈ ring

theorem RingWhole.bottom {ring : List (Fin 64)} (h : RingWhole ring) (u : Fin 64) : RingWhole (ringBottom ring u) :=
  ⟨nodup_ringBottom h.1 u, mem_ringBottom h.2 u⟩

/-- Selection makes the engine lawful wherever the ring is whole (R126, R128). -/
theorem engineLaw_select {s : State} (h : RingWhole s.engine.ring) : EngineLaw s.select := by
  obtain ⟨nodup, full⟩ := State.selectFuel_keeps (p := fun t => RingWhole t.engine.ring) (fun _ u _ _ _ h => h.bottom u)
    (fun _ _ _ _ _ _ _ h => h) (fun _ _ _ _ h => h) 65 h
  exact ⟨nodup, full, selected_select h.2⟩

theorem EventQueue.records_push_le {q : EventQueue} (h : q.records.length ≤ 32) (t : Nat) (e : Event) :
    (q.push t e).records.length ≤ 32 := by
  unfold EventQueue.push
  split
  · next hroom => exact List.length_append.trans_le (Nat.succ_le_of_lt hroom)
  · exact h

theorem EventQueue.records_pop_le {q : EventQueue} (h : q.records.length ≤ 32) (t n : Nat) :
    (q.pop t n).records.length ≤ 32 := by
  unfold EventQueue.pop
  split
  · exact h
  · simp only [List.length_drop]
    omega

theorem Slot.reset_misses_le (own : Bool) : (Slot.reset own).misses ≤ 8 := Nat.zero_le _

/-- One of two outcomes, by a condition. -/
theorem answersIn_ite {p : State → Prop} {c : Prop} [Decidable c] {t u : State} (h : c → p t) (h' : ¬ c → p u) :
    AnswersIn (.next (if c then t else u)) p :=
  answersIn_next.mpr (iteInduction h h')

/-- From `s` to `t` each bound and each law is kept, whether the others hold or not. -/
structure QueuesKept (s t : State) : Prop where
  events : s.events.records.length ≤ 32 → t.events.records.length ≤ 32
  requests : s.lookup.requests.length ≤ 4 → t.lookup.requests.length ≤ 4
  faults : s.lane.faults ≤ 8 → t.lane.faults ≤ 8
  misses : (∀ k, (s.roster.slots.get k).misses ≤ 8) → ∀ k, (t.roster.slots.get k).misses ≤ 8
  invalidation : InvalidationLaw s → InvalidationLaw t
  engine : EngineLaw s → EngineLaw t

namespace QueuesKept

variable {s₀ s t : State}

theorem refl (s : State) : QueuesKept s s := ⟨id, id, id, id, id, id⟩

theorem of_same (h : QueuesKept s₀ s) (events : t.events.records = s.events.records := by simp)
    (requests : t.lookup.requests = s.lookup.requests := by simp) (faults : t.lane.faults = s.lane.faults := by simp)
    (slots : t.roster.slots = s.roster.slots := by simp) (invalidation : t.invalidation = s.invalidation := by simp)
    (engine : t.engine = s.engine := by simp) : QueuesKept s₀ t where
  events := events ▸ h.events
  requests := requests ▸ h.requests
  faults := faults ▸ h.faults
  misses := slots ▸ h.misses
  invalidation := by simp only [InvalidationLaw, invalidation]; exact h.invalidation
  engine := by simp only [EngineLaw, engine]; exact h.engine

/-! ### Replies and records (R148, R165, R166) -/

theorem replied (h : QueuesKept s₀ s) (status : Status) (data : List Byte) : QueuesKept s₀ (s.replied status data) := h.of_same

theorem refuse (h : QueuesKept s₀ s) (status : Status) : QueuesKept s₀ (s.refuse status) := h.replied status []

theorem done (h : QueuesKept s₀ s) : QueuesKept s₀ s.done := h.replied .done []

theorem push (h : QueuesKept s₀ s) (subject : Byte) (d : Detail) : QueuesKept s₀ (s.push subject d) :=
  { h with events := fun hs => EventQueue.records_push_le (h.events hs) _ _ }

/-! ### Tables and blocks replaced -/

theorem withLane (h : QueuesKept s₀ s) {l : Lane} (faults : s.lane.faults ≤ 8 → l.faults ≤ 8) : QueuesKept s₀ (s.withLane l) :=
  { h with faults := faults ∘ h.faults }

theorem replaceInvalidation (h : QueuesKept s₀ s) {q : InvalidationQueue}
    (law : InvalidationLaw s → InvalidationLaw { s with invalidation := q }) : QueuesKept s₀ { s with invalidation := q } :=
  { h with invalidation := law ∘ h.invalidation }

/-- A slot is rewritten with its misses within their bound (R92). -/
theorem setSlot (h : QueuesKept s₀ s) (k : Fin 16) {x : Slot} (misses : (s.roster.slots.get k).misses ≤ 8 → x.misses ≤ 8) :
    QueuesKept s₀ (s.setSlot k x) :=
  { h with misses := fun hs =>
      Table.forall_set (p := fun x : Slot => x.misses ≤ 8) (h.misses hs) k (misses (h.misses hs k)) }

/-- An engine replaced with its ring whole selects (R126, R128). -/
theorem select (h : QueuesKept s₀ s) {e : Engine} (ring : RingWhole s.engine.ring → RingWhole e.ring) :
    QueuesKept s₀ (s.withEngine e).select := by
  have lawful (hs : EngineLaw s₀) : EngineLaw (s.withEngine e).select :=
    have ⟨nodup, full, _⟩ := h.engine hs
    engineLaw_select (ring ⟨nodup, full⟩)
  obtain ⟨e', hframe⟩ := State.select_frame (s.withEngine e)
  rw [hframe] at lawful ⊢
  exact { h with engine := lawful }

/-! ### Claims on the map (R4, R8 to R14) -/

theorem dirtyOnChange (h : QueuesKept s₀ s) (u : Fin 64) (old new : MapState) : QueuesKept s₀ (s.dirtyOnChange u old new) :=
  iteInduction (fun _ => h) fun _ => h.select id

theorem changeOwn (h : QueuesKept s₀ s) (i : Fin 4) (m : MapState) (c : FactorSet) : QueuesKept s₀ (s.changeOwn i m c) :=
  dirtyOnChange h.of_same ..

theorem changePeer (h : QueuesKept s₀ s) (u : Fin 64) (m : MapState) (ep : Byte) (o : Origin) (c : FactorSet) :
    QueuesKept s₀ (s.changePeer u m ep o c) :=
  have written : QueuesKept s₀ (s.setEntry u ⟨m, ep, o, c, true, s.now⟩) := h.of_same
  (written.push ..).dirtyOnChange ..

theorem applyRecord (h : QueuesKept s₀ s) (un : Bool) (k : Fin 16) (r : Record) : QueuesKept s₀ (State.applyRecord un k s r) :=
  iteInduction (fun _ => iteInduction (fun _ => h.of_same) fun _ => h.changePeer ..) fun _ => h

theorem clearEntry (h : QueuesKept s₀ s) (u : Fin 64) : QueuesKept s₀ (s.clearEntry u) :=
  iteInduction (fun _ => h.of_same) fun _ => h.changePeer ..

theorem rosterClaim (h : QueuesKept s₀ s) (k : Fin 16) : QueuesKept s₀ (s.rosterClaim k) :=
  List.foldlRecOn _ _ h fun _ h _ _ => h.clearEntry _

theorem transition (h : QueuesKept s₀ s) (i : Fin 4) (d : Detector) (c : FactorSet) : QueuesKept s₀ (s.transition i d c) :=
  have remade : QueuesKept s₀ (s.setDetector i d) := h.of_same
  iteInduction (fun _ => remade) fun _ => remade.changeOwn ..

theorem keptByDetectors (s₀ : State) : KeptByDetectors (QueuesKept s₀) where
  setDetector _ _ h := h.of_same
  transition i d c h := h.transition i d c
  push x d h := h.push x d
  replied status data h := h.replied status data

/-! ### Modes (R83 to R90) -/

theorem changeMode (h : QueuesKept s₀ s) (m : Mode) (c : ModeCause) : QueuesKept s₀ (s.changeMode m c) :=
  have moved : QueuesKept s₀ (s.setMode m) := h.of_same
  moved.push ..

theorem testGuard (h : QueuesKept s₀ s) : QueuesKept s₀ s.testGuard :=
  iteInduction (fun _ => (h.changeMode .active .joinDone).of_same) fun _ => h

/-- The entry to JOINING clears the fault count and leaves the misses (R53, R85). -/
theorem joined (h : QueuesKept s₀ s) (c : ModeCause) : QueuesKept s₀ (s.enterJoining.changeMode .joining c) :=
  have entered : QueuesKept s₀ s.enterJoining := { h with
    faults := fun _ => Nat.zero_le _
    misses := fun hs k => by simpa [State.enterJoining] using h.misses hs k }
  entered.changeMode ..

theorem isolate (h : QueuesKept s₀ s) : QueuesKept s₀ s.isolate :=
  have silenced : QueuesKept s₀ s.silenceAnnouncer := { h with }
  { silenced.changeMode .isolated .fault with }

theorem leave (h : QueuesKept s₀ s) : QueuesKept s₀ s.leave :=
  have released : QueuesKept s₀ (if s.lane.tx = .idle then s else s.releaseLane) :=
    iteInduction (fun _ => h) fun _ => h.withLane id
  have silenced : QueuesKept s₀ (if s.lane.tx = .idle then s else s.releaseLane).silenceAnnouncer :=
    { released with }
  { silenced.changeMode .quiet .host with }

/-! ### The starts (R19, R63, R90, R100, R136, R147) -/

theorem fullReset (s₀ : State) (code : Fin 16) (los lock : Fin 4 → Bool) (mcs held : Bool) (pending : List Instr)
    (pins : List PortPin) (drawn : Nat) : QueuesKept s₀ (.fullReset code los lock mcs held pending pins drawn) where
  events _ := Nat.zero_le _
  requests _ := Nat.zero_le _
  faults _ := Nat.zero_le _
  misses _ k := by simpa [State.fullReset, Roster.reset, Roster.resetSlots] using Slot.reset_misses_le _
  invalidation _ := State.invalidationLaw_reset
  engine _ := State.engineLaw_reset

/-- The starts leave no peer missed, nothing that waits for the engine, and the flush-all mark alone (R100, R136, R147). -/
theorem startingValues (h : QueuesKept s₀ s) : QueuesKept s₀ s.startingValues := { h with
  misses := fun _ k => by simpa [State.startingValues, Roster.resetSlots] using Slot.reset_misses_le _
  invalidation := fun _ => ⟨List.nodup_nil, Nat.zero_le _, fun _ => rfl⟩
  engine := fun _ => State.engineLaw_reset }

theorem started (h : QueuesKept s₀ s) : QueuesKept s₀ s.started :=
  have begun := ((h.startingValues.withLane id).withLane id).joined .host
  { begun with }

theorem restartTransmitter (h : QueuesKept s₀ s) : QueuesKept s₀ s.restartTransmitter := by
  unfold State.restartTransmitter
  split
  all_goals exact h.withLane id

theorem restarted (h : QueuesKept s₀ s) : QueuesKept s₀ s.restarted :=
  (h.startingValues.restartTransmitter.withLane (l := s.startingValues.restartTransmitter.startSeeking.lane) id).joined .reset

/-! ### The end of a won notice (R52, R71 to R73) -/

/-- The misses of a peer are capped at eight (R71). -/
theorem bookkeep (h : QueuesKept s₀ s) (n : Notice) (tally : StationSet) (k : Fin 16) :
    QueuesKept s₀ (State.bookkeep n tally s k) :=
  iteInduction (fun _ => iteInduction (fun _ => h.setSlot k fun _ => Nat.zero_le _) fun _ =>
    iteInduction (fun _ => (h.setSlot k fun _ => Nat.le_refl _).push ..) fun _ => h.setSlot k fun _ => Nat.min_le_left _ _)
    fun _ => h

theorem settleEntry (h : QueuesKept s₀ s) (tally : StationSet) (i : Fin 4) : QueuesKept s₀ (State.settleEntry tally s i) := by
  have settled (a : AnnounceEntry) : QueuesKept s₀ (s.setAnnounce i a) := h.of_same
  exact iteInduction (fun _ => iteInduction (fun _ => settled _) fun _ =>
    iteInduction (fun _ => (settled _).push ..) fun _ => settled _) fun _ => h

theorem endOfWonNotice (h : QueuesKept s₀ s) (n : Notice) (tally : Option StationSet) :
    QueuesKept s₀ (s.endOfWonNotice n tally) := by
  have settled {s : State} (h : QueuesKept s₀ s) (tally : StationSet) :
      QueuesKept s₀ (n.carried.foldl (State.settleEntry tally) s) :=
    List.foldlRecOn _ _ h fun _ h _ _ => h.settleEntry ..
  cases tally with
  | none => exact { settled h _ with }
  | some t =>
    have booked : QueuesKept s₀ (State.codes.foldl (State.bookkeep n t) s) :=
      List.foldlRecOn _ _ h fun _ h _ _ => h.bookkeep ..
    exact { settled booked _ with }

/-- The fault count is cleared, or counts up to eight (R52, R53). -/
theorem wonNoticeEnds (h : QueuesKept s₀ s) (n : Notice) (tally : Option StationSet) :
    QueuesKept s₀ (s.wonNoticeEnds n tally) := by
  have counted : (laneAfterEnd s tally (ownHeard s tally)).faults ≤ 8 :=
    iteInduction (motive := (· ≤ 8)) (fun _ => Nat.zero_le 8) fun _ => Nat.min_le_left ..
  have ended : QueuesKept s₀ (s.wonEnd n tally) := (h.withLane fun _ => counted).endOfWonNotice n tally
  rw [State.wonNoticeEnds_eq]
  exact iteInduction (fun _ => ended.isolate) fun _ => ended.testGuard

/-! ### Reception and silence (R54 to R57, R94 to R96) -/

theorem takeNotice (h : QueuesKept s₀ s) (n : RxNotice) : QueuesKept s₀ (s.takeNotice n) :=
  have heard : QueuesKept s₀ (s.setSlot n.sender (s.heardSlot (s.roster.slots.get n.sender) n.join)) := h.setSlot _ id
  List.foldlRecOn _ _ (iteInduction (fun _ => heard.push ..) fun _ => heard) fun _ h _ _ => h.applyRecord ..

/-- A slot that is lost has no misses, and its entries are claimed (R14, R95, R96). -/
theorem loseSlot (h : QueuesKept s₀ s) (k : Fin 16) (x : Slot) (state : SlotState) (silence : Timer) (foreign : Option Half)
    (d : Detail) :
    QueuesKept s₀ (((s.setSlot k (State.lostSlot x state silence foreign)).push (idByte k) d).rosterClaim k).testGuard :=
  (((h.setSlot k fun _ => Nat.zero_le _).push ..).rosterClaim k).testGuard

theorem takeForeign (h : QueuesKept s₀ s) (n : RxNotice) : QueuesKept s₀ (s.takeForeign n) :=
  iteInduction (fun _ => h.setSlot _ id) fun _ => h.loseSlot ..

theorem fallSilent (h : QueuesKept s₀ s) (k : Fin 16) : QueuesKept s₀ (s.fallSilent k) := h.loseSlot ..

/-- The receiver drops the notice that it follows, with a flag set or not (R54 to R56). -/
theorem dropped (h : QueuesKept s₀ s) (f : LaneFlags) : QueuesKept s₀ (s.withFlags f).discard :=
  { h with }

theorem receive (h : QueuesKept s₀ s) (n : RxNotice) : QueuesKept s₀ (s.receive n) := by
  unfold State.receive
  dsimp only
  split
  · exact h.dropped _
  · exact h.dropped _
  · exact iteInduction (fun _ => h.dropped _) fun _ => (h.dropped _).takeForeign n
  · have closing (f : LaneFlags) : QueuesKept s₀ ((s.withFlags f).withLane
        { (s.withFlags f).lane with rx := .closing, slotPermitted := s.roster.mode.transmits }) :=
      { h with }
    exact iteInduction (fun _ => closing _) fun _ => (closing _).takeNotice n

/-! ### Commits and offers (R111, R126, R130, R142) -/

/-- An offer joins a queue that has room and does not hold the group, or empties a full one under the mark (R141, R142). -/
theorem offer (h : QueuesKept s₀ s) (g : Fin 256) : QueuesKept s₀ (s.offer g) := by
  by_cases hdiscarded : s.invalidation.flushAll = true ∨ g ∈ s.invalidation.ids
  · rw [State.offer_of_discarded hdiscarded]
    exact h
  · obtain ⟨hflush, hnew⟩ := not_or.mp hdiscarded
    rw [Bool.not_eq_true] at hflush
    by_cases hroom : s.invalidation.ids.length < 16
    · rw [State.offer_of_room hflush hnew hroom]
      refine h.replaceInvalidation fun hs => ⟨?_, ?_, fun hmark => by cases hmark⟩
      · exact List.concat_eq_append ▸ hs.1.concat hnew
      · exact List.length_append.trans_le (Nat.succ_le_of_lt hroom)
    · rw [State.offer_of_full hflush hnew (Nat.not_lt.mp hroom)]
      exact (h.replaceInvalidation fun _ => ⟨List.nodup_nil, Nat.zero_le _, fun _ => rfl⟩).push ..

theorem commit (h : QueuesKept s₀ s) (ev : Evaluation) (resteer : Bool) : QueuesKept s₀ (s.commit ev resteer) := by
  have written (r : Group) : QueuesKept s₀ (s.setGroup ev.group r) := h.of_same
  unfold State.commit
  dsimp only
  split
  · split
    · exact ((written _).push ..).offer _
    · exact (written _).offer _
  · exact written _

theorem advance (h : QueuesKept s₀ s) : QueuesKept s₀ s.advance := by
  unfold State.advance
  split
  · exact h
  · split
    · refine { h with engine := fun hs => ?_ }
      obtain ⟨nodup, full, -⟩ := h.engine hs
      exact ⟨nodup, full, fun hidle => by cases hidle⟩
    · exact h.select (RingWhole.bottom · _)
  · exact h.select id

/-! ### Requests (R138, R143) -/

theorem request (h : QueuesKept s₀ s) (r : Request) : QueuesKept s₀ (s.request r) := by
  cases hready : s.lkrdy with
  | false =>
    rw [State.request_of_not_lkrdy hready]
    exact h
  | true =>
    have hroom : s.lookup.requests.length < 4 := of_decide_eq_true (Bool.and_eq_true_iff.mp hready).2
    rw [State.request_of_lkrdy hready]
    exact { h with requests := fun _ => List.length_append.trans_le (Nat.succ_le_of_lt hroom) }

theorem answer (h : QueuesKept s₀ s) (a : Answer) : QueuesKept s₀ (s.answer a) :=
  { h with requests := fun hs => s.lookup.requests.length_tail ▸ (Nat.sub_le _ _).trans (h.requests hs) }

/-- A TAKE clears the mark or takes the head id (R143). -/
theorem take (h : QueuesKept s₀ s) : QueuesKept s₀ s.take := by
  unfold State.take
  split
  · refine (h.replaceInvalidation fun ⟨nodup, bound, _⟩ => ?_).answer _
    exact ⟨nodup, bound, fun hmark => by cases hmark⟩
  · split
    · next g rest hids =>
      refine (h.replaceInvalidation fun ⟨nodup, bound, _⟩ => ?_).answer _
      rw [hids] at nodup bound
      exact ⟨nodup.of_cons, (Nat.le_succ _).trans bound, fun hmark => by cases hmark⟩
    · exact h.answer _

end QueuesKept

end Sys2Proof.Machine

/-! SUPPORT. The bounds and the two laws after every command and every step. -/

namespace Sys2Proof.Machine

namespace QueuesKept

variable {s₀ s : State}

/-! ### The commands of the management port -/

theorem exec_unknownCommand (h : QueuesKept s₀ s) (code : Byte) : AnswersIn (execUnknownCommand code s) (QueuesKept s₀) :=
  answersIn_portCommand h (h.refuse _)

theorem exec_setStation (h : QueuesKept s₀ s) (fingerprint : Half) (period silence : Byte) :
    AnswersIn (execSetStation fingerprint period silence s) (QueuesKept s₀) := by
  refine answersIn_configure h (h.refuse _) ?_
  split
  · exact h.of_same
  · exact h.refuse _

/-- A group written or cleared changes the index alone of the engine (R124). -/
theorem redefine (h : QueuesKept s₀ s) (g : Fin 256) (r : Group) (index : Table (List (Fin 256)) 64) :
    QueuesKept s₀ ((s.setGroup g r).withEngine { s.engine with index := index }).done := { h with }

theorem defineGroup (h : QueuesKept s₀ s) (g : Fin 256) (revert : RevertMode) (tiers : List (List Byte)) :
    QueuesKept s₀ (s.defineGroup g revert tiers) := by
  unfold State.defineGroup
  split
  · exact h.refuse _
  · exact iteInduction (fun _ => iteInduction (fun _ => h.refuse _) fun _ => h.redefine ..) fun _ => h.refuse _

theorem exec_writeGroup (h : QueuesKept s₀ s) (args : List Byte) : AnswersIn (execWriteGroup args s) (QueuesKept s₀) := by
  refine answersIn_configure h (h.refuse _) ?_
  split
  · exact h.of_same
  · exact h.refuse _
  · exact h.defineGroup ..

theorem exec_clearGroup (h : QueuesKept s₀ s) (group : Byte) : AnswersIn (execClearGroup group s) (QueuesKept s₀) :=
  answersIn_configure h (h.refuse _) (h.redefine ..)

theorem exec_start (h : QueuesKept s₀ s) : AnswersIn (execStart s) (QueuesKept s₀) :=
  answersIn_portCommand h (iteInduction (fun _ => h.started.done) fun _ => h.refuse _)

theorem exec_restart (h : QueuesKept s₀ s) : AnswersIn (execRestart s) (QueuesKept s₀) :=
  answersIn_portCommand h (iteInduction (fun _ => h.refuse _) fun _ => h.restarted.done)

/-- A group joins the resteer set, and the engine selects (R127). -/
theorem exec_resteer (h : QueuesKept s₀ s) (group : Byte) : AnswersIn (execResteer group s) (QueuesKept s₀) :=
  have queued : QueuesKept s₀
      (s.withEngine { s.engine with resteers := s.engine.resteers.set (groupArg group) true }).select := h.select id
  answersIn_portCommand h
    (iteInduction (fun _ => h.refuse _) fun _ => iteInduction (fun _ => h.refuse _) fun _ => queued.done)

theorem exec_leave (h : QueuesKept s₀ s) : AnswersIn (execLeave s) (QueuesKept s₀) := by
  refine answersIn_portCommand h ?_
  split
  · exact h.refuse _
  · exact h.done
  all_goals exact h.leave.done

theorem exec_rejoin (h : QueuesKept s₀ s) : AnswersIn (execRejoin s) (QueuesKept s₀) := by
  refine answersIn_portCommand h ?_
  split
  · exact (h.joined _).done
  · exact (h.joined _).done
  all_goals exact h.refuse _

theorem exec_setEventReporting (h : QueuesKept s₀ s) (trigger timeout : Byte) :
    AnswersIn (execSetEventReporting trigger timeout s) (QueuesKept s₀) := by
  refine answersIn_portCommand h ?_
  split
  · exact h.of_same
  · exact h.refuse _

theorem exec_readStatus (h : QueuesKept s₀ s) : AnswersIn (execReadStatus s) (QueuesKept s₀) :=
  answersIn_portCommand h { h with }

theorem exec_readEvents (h : QueuesKept s₀ s) (n : Byte) : AnswersIn (execReadEvents n s) (QueuesKept s₀) :=
  have popped : QueuesKept s₀ (s.withEvents (s.events.pop s.ticks n.toNat)) :=
    { h with events := fun hs => EventQueue.records_pop_le (h.events hs) _ _ }
  answersIn_portCommand h (iteInduction (fun _ => popped.replied ..) fun _ => h.refuse _)

theorem exec_readMap (h : QueuesKept s₀ s) (which : Byte) : AnswersIn (execReadMap which s) (QueuesKept s₀) := by
  refine answersIn_portCommand h ?_
  split
  · exact { h with }
  · exact iteInduction (fun _ => h.of_same) fun _ => h.refuse _

theorem exec_readRoster (h : QueuesKept s₀ s) : AnswersIn (execReadRoster s) (QueuesKept s₀) :=
  answersIn_portCommand h (h.replied ..)

theorem exec_readGroup (h : QueuesKept s₀ s) (group : Byte) : AnswersIn (execReadGroup group s) (QueuesKept s₀) :=
  answersIn_portCommand h (h.replied ..)

theorem exec_probe (h : QueuesKept s₀ s) (group : Byte) (hash : Half) : AnswersIn (execProbe group hash s) (QueuesKept s₀) :=
  answersIn_portCommand h (h.replied ..)

/-! ### The lookup port -/

theorem exec_lookupService (h : QueuesKept s₀ s) : AnswersIn (execLookupService s) (QueuesKept s₀) := by
  refine answersIn_next.mpr ?_
  split
  · exact h.answer _
  all_goals exact h

theorem exec_takeService (h : QueuesKept s₀ s) : AnswersIn (execTakeService s) (QueuesKept s₀) := by
  refine answersIn_next.mpr ?_
  split
  · exact h.take
  all_goals exact h

/-! ### The lane -/

/-- An offer writes sent epochs and starts a notice (R48, R67). -/
theorem exec_noticeStartOffer (h : QueuesKept s₀ s) : AnswersIn (execNoticeStartOffer s) (QueuesKept s₀) := by
  have written : QueuesKept s₀ s.writeSentEpochs :=
    List.foldlRecOn (motive := QueuesKept s₀) _ _ h fun _ h _ _ => h.of_same
  exact answersIn_ite (fun _ => { written with }) fun _ => h

theorem exec_txMismatch (h : QueuesKept s₀ s) : AnswersIn (execTxMismatch s) (QueuesKept s₀) := by
  refine answersIn_next.mpr ?_
  split
  · exact h.withLane id
  · exact h.withLane id
  all_goals exact h

theorem exec_abortPatternEnd (h : QueuesKept s₀ s) : AnswersIn (execAbortPatternEnd s) (QueuesKept s₀) := by
  refine answersIn_ite (fun _ => ?_) fun _ => h
  split
  · exact h.wonNoticeEnds ..
  · exact h.withLane id

theorem exec_noticeCompleted (h : QueuesKept s₀ s) (slots : StationSet) :
    AnswersIn (execNoticeCompleted slots s) (QueuesKept s₀) := by
  refine answersIn_next.mpr ?_
  split
  · exact h.wonNoticeEnds ..
  · exact h

theorem exec_noticeDecision (h : QueuesKept s₀ s) (n : RxNotice) : AnswersIn (execNoticeDecision n s) (QueuesKept s₀) := by
  have moved : QueuesKept s₀ (if s.lane.tx = .sending then s.withLane { s.lane with tx := .closing } else s) :=
    iteInduction (fun _ => h.withLane id) fun _ => h
  exact answersIn_ite (fun _ => moved.receive n) fun _ => moved

theorem exec_receiveAbort (h : QueuesKept s₀ s) : AnswersIn (execReceiveAbort s) (QueuesKept s₀) := by
  refine answersIn_next.mpr ?_
  split
  · exact h.dropped _
  · exact h.withLane id
  all_goals exact h

theorem exec_receiveTruncation (h : QueuesKept s₀ s) : AnswersIn (execReceiveTruncation s) (QueuesKept s₀) := by
  refine answersIn_next.mpr ?_
  split
  · exact h.dropped _
  · exact h.withLane id
  all_goals exact h

/-! ### Timers and the engine -/

theorem exec_silenceTimerExpiry (h : QueuesKept s₀ s) (k : Fin 16) :
    AnswersIn (execSilenceTimerExpiry k s) (QueuesKept s₀) := by
  have lost : QueuesKept s₀ (if (s.roster.slots.get k).silence.isSome then s.fallSilent k else s) :=
    iteInduction (fun _ => h.fallSilent k) fun _ => h
  refine answersIn_next.mpr ?_
  split
  · exact lost
  · exact lost
  · exact lost
  all_goals exact h

theorem exec_joinWindowExpiry (h : QueuesKept s₀ s) : AnswersIn (execJoinWindowExpiry s) (QueuesKept s₀) :=
  have ended : QueuesKept s₀ s.windowEnded := { h with }
  answersIn_ite (fun _ => ended.testGuard) fun _ => h

theorem exec_evaluationCommit (h : QueuesKept s₀ s) : AnswersIn (execEvaluationCommit s) (QueuesKept s₀) := by
  refine answersIn_next.mpr ?_
  split
  · exact h
  · exact (h.commit ..).advance
  · exact (h.commit ..).advance

/-! ### Every command and every step -/

/-- Every command keeps each bound and each law. -/
theorem afterCommand (c : Instr) (h : QueuesKept s₀ s) : AnswersIn (exec c s) (QueuesKept s₀) := by
  cases c with
  | fullReset straps => exact answersIn_next.mpr (fullReset ..)
  | rstRelease => exact answersIn_ite (fun _ => h.of_same) fun _ => h
  | frameDiscard => exact answersIn_portCommand h h.of_same
  | unknownCommand code => exact h.exec_unknownCommand code
  | setStation fingerprint period silence => exact h.exec_setStation ..
  | writeGroup args => exact h.exec_writeGroup args
  | clearGroup group => exact h.exec_clearGroup group
  | start => exact h.exec_start
  | restart => exact h.exec_restart
  | resteer group => exact h.exec_resteer group
  | leave => exact h.exec_leave
  | rejoin => exact h.exec_rejoin
  | setEventReporting trigger timeout => exact h.exec_setEventReporting ..
  | readStatus => exact h.exec_readStatus
  | readEvents n => exact h.exec_readEvents n
  | readMap which => exact h.exec_readMap which
  | readRoster => exact h.exec_readRoster
  | readGroup group => exact h.exec_readGroup group
  | probe group hash => exact h.exec_probe group hash
  | lookupRequest word => exact answersIn_next.mpr (h.request _)
  | takeRequest => exact answersIn_next.mpr (h.request _)
  | lookupService => exact h.exec_lookupService
  | takeService => exact h.exec_takeService
  | quietGapEnd | laneDominantLevel => exact answersIn_ite (fun _ => h) fun _ => h.withLane id
  | noticeStartOffer => exact h.exec_noticeStartOffer
  | arbitrationLost | arbitrationWon | receivedNoticeEnd => exact answersIn_ite (fun _ => h.withLane id) fun _ => h
  | txMismatch => exact h.exec_txMismatch
  | abortPatternEnd => exact h.exec_abortPatternEnd
  | noticeCompleted slots => exact h.exec_noticeCompleted slots
  | noticeDecision n => exact h.exec_noticeDecision n
  | receiveAbort => exact h.exec_receiveAbort
  | receiveTruncation => exact h.exec_receiveTruncation
  | badStartMark => exact answersIn_ite (fun _ => h.dropped _) fun _ => h
  | silenceTimerExpiry k => exact h.exec_silenceTimerExpiry k
  | beaconTimerExpiry => exact answersIn_ite (fun _ => h.of_same) fun _ => h
  | joinWindowExpiry => exact h.exec_joinWindowExpiry
  | cooldownExpiry => exact answersIn_ite (fun _ => h.joined _) fun _ => h
  | evaluationCommit => exact h.exec_evaluationCommit
  | idleTimerExpiry => exact answersIn_ite (fun _ => h.of_same) fun _ => h
  | _ => exact (keptByDetectors s₀).afterCommand rfl h

theorem afterStep (s : State) : AnswersIn (step s) (QueuesKept s) :=
  step_keeps (fun _ _ _ _ h => { h with }) (fun _ _ h => h.of_same)
    (fun _ h => iteInduction (fun _ => h) fun _ => { h with }) (fun c _ h => h.afterCommand c) (refl s)

end QueuesKept

end Sys2Proof.Machine

/-! PROOF. What every step keeps of the queues and the engine, the outputs, and the lookup port's requests,
services and offers. -/

namespace Sys2Proof.LookupAndInvalidation

open Sys2Proof.Machine

/-! ### What every step keeps -/

/-- Settles O55: every command, every edge that moves the frame and a tick keep each bound and each of the two laws by itself. -/
theorem stepKeepsQueuesAndEngine : Obligations.StepKeepsQueuesAndEngine := by
  unfold Obligations.StepKeepsQueuesAndEngine
  intro s s' hstep
  have kept := (QueuesKept.afterStep s).of_eq_next hstep
  refine ⟨fun ⟨records, requests, faults, misses⟩ => ?_, kept.invalidation, kept.engine⟩
  exact ⟨kept.events records, kept.requests requests, kept.faults faults, kept.misses misses⟩

/-! ### RST and the outputs -/

/-- Settles O6: every command of the port is ignored while RST is held, and MDO goes by the frame's position. -/
theorem heldPartTakesNothingUntilRelease : Obligations.HeldPartTakesNothingUntilRelease := by
  unfold Obligations.HeldPartTakesNothingUntilRelease
  refine ⟨fun s hrst => ?_, fun s hrst => ?_⟩
  · obtain ⟨hlkrdy, hpend, hirq, hmdo⟩ := State.outputs_of_held hrst
    have notTaken (r : Request) : Host.Outcome.next (s.request r) = (.next s : Host.Outcome State Fault Refusal) :=
      congrArg _ (State.request_of_not_lkrdy hlkrdy r)
    refine ⟨hlkrdy, hpend, hirq, hmdo, fun w => notTaken _, notTaken _, exec_all_of_held hrst rfl,
      fun b => exec_all_of_held hrst rfl, fun h a b args bytes => exec_all_of_held hrst rfl, congrArg _ (if_pos hrst),
      fun hnone => ?_⟩
    rw [State.lkrdy_iff rfl, hnone]
    decide
  · refine ⟨State.lkrdy_iff hrst, State.invPend_iff hrst, fun p hp htrigger => ?_, fun hoff => ?_,
      fun bytes bits hframe _ => State.phase_and_mdo hrst hframe (Frame.phase_opening bytes bits) rfl,
      fun reply => ⟨fun hframe => State.phase_and_mdo hrst hframe (Frame.phase_taken_of_le (Nat.zero_le _)) rfl,
        fun k hframe => ⟨fun b hb => ?_, fun hover => ?_⟩⟩⟩
    · rw [State.irq_iff hrst, htrigger, TriggerLevel.count_eq p hp]
    · have hphase : s.port.frame.phase = none := by obtain h | h := hoff <;> rw [h] <;> rfl
      exact ⟨hphase, by simp [State.mdo, hphase]⟩
    · obtain ⟨hplace, -⟩ := List.getElem?_eq_some_iff.mp hb
      exact State.phase_and_mdo hrst hframe (Frame.phase_taken_of_le (by omega)) (Frame.outBit_of_reply hb)
    · exact State.phase_and_mdo hrst hframe (Frame.phase_taken_of_lt (Nat.lt_succ_of_le hover)) (Frame.outBit_after_reply hover)

/-! ### Requests, services and offers -/

/-- Settles O26: by `State.lkrdy_iff`, at the four requests that the port holds. -/
theorem requestsAreTakenWhileReady : Obligations.RequestsAreTakenWhileReady := by
  unfold Obligations.RequestsAreTakenWhileReady
  intro s w hrst
  refine ⟨State.lkrdy_iff hrst, fun hfull => ?_, fun hroom => ?_⟩
  · have hnot : s.lkrdy = false :=
      Bool.eq_false_of_not_eq_true (mt (State.lkrdy_iff hrst).mp (Nat.not_lt.mpr hfull))
    exact ⟨congrArg _ (State.request_of_not_lkrdy hnot _), congrArg _ (State.request_of_not_lkrdy hnot _)⟩
  · have hready : s.lkrdy = true := (State.lkrdy_iff hrst).mpr hroom
    refine ⟨congrArg _ (State.request_of_lkrdy hready _), ?_⟩
    rintro g hash rfl
    rw [State.exec_lookupRequest_append, State.request_of_lkrdy hready]

/-- Settles O27: by the mark, and without it by the queue's head. -/
theorem takeAnswersFromTheInvalidationQueue : Obligations.TakeAnswersFromTheInvalidationQueue := by
  unfold Obligations.TakeAnswersFromTheInvalidationQueue
  intro s rest hrequests
  rw [State.exec_takeService_of_take hrequests]
  refine ⟨fun hmark => ?_, fun g ids hqueue => ?_, fun hempty => ?_⟩
  · rw [State.take_of_flushAll hmark, State.answer, hrequests]
    rfl
  · rw [State.take_of_cons hqueue, State.answer, hrequests, Answer.invalidate_word]
    rfl
  · rw [State.take_of_empty hempty, State.answer, hrequests]
    rfl

/-- Settles O28: the four rows of an offer. -/
theorem offerJoinsOrFlushesTheQueue : Obligations.OfferJoinsOrFlushesTheQueue := by
  unfold Obligations.OfferJoinsOrFlushesTheQueue
  intro s g
  exact ⟨State.offer_of_discarded, State.offer_of_room, State.offer_of_full⟩

end Sys2Proof.LookupAndInvalidation

/-! SUPPORT. What a command takes no part in: the queues, the count of free choices, RST, the clock and the station code
stand; the port's frame ends or its command is taken at a port command, and no other command reaches the port (R148, R149,
log 1, log 2). -/

namespace Sys2Proof

/-- The commands that move RST. -/
def Instr.movesRst : Instr → Bool
  | .fullReset _ | .rstRelease => true
  | _ => false

end Sys2Proof

namespace Sys2Proof.Machine

/-- From `s` to `t` the queues, the count of free choices, RST, the clock and the station code stand. -/
structure Prompt (s t : State) : Prop where
  pending : t.pending = s.pending
  pins : t.pins = s.pins
  drawn : t.drawn = s.drawn
  rstHeld : t.rstHeld = s.rstHeld
  ticks : t.ticks = s.ticks
  code : t.station.code = s.station.code

/-- From `s` to `t` the port stands too. -/
structure Aside (s t : State) : Prop extends Prompt s t where
  port : t.port = s.port

/-- No command is waited for: the frame has ended, or its command is taken. -/
def Frame.Settled : Frame → Prop
  | .closed | .taken _ _ => True
  | .waiting | .opening _ _ => False

/-- From `s` to `t` a command of the port is taken, or its frame ends. -/
structure Answered (s t : State) : Prop extends Prompt s t where
  settled : t.port.frame.Settled

namespace Prompt

variable {s t : State}

theorem of_same (pending : t.pending = s.pending := by simp) (pins : t.pins = s.pins := by simp)
    (drawn : t.drawn = s.drawn := by simp) (rstHeld : t.rstHeld = s.rstHeld := by simp) (ticks : t.ticks = s.ticks := by simp)
    (station : t.station = s.station := by simp) : Prompt s t :=
  ⟨pending, pins, drawn, rstHeld, ticks, by rw [station]⟩

theorem refl (s : State) : Prompt s s := ⟨rfl, rfl, rfl, rfl, rfl, rfl⟩

theorem trans {u : State} (h : Prompt s t) (h' : Prompt t u) : Prompt s u :=
  ⟨h'.pending.trans h.pending, h'.pins.trans h.pins, h'.drawn.trans h.drawn, h'.rstHeld.trans h.rstHeld,
    h'.ticks.trans h.ticks, h'.code.trans h.code⟩

theorem replied (h : Prompt s t) (status : Status) (data : List Byte) : Answered s (t.replied status data) :=
  ⟨⟨h.pending, h.pins, h.drawn, h.rstHeld, h.ticks, h.code⟩, trivial⟩

theorem done (h : Prompt s t) : Answered s t.done := h.replied .done []

theorem leave (s : State) : Prompt s s.leave := by
  rw [State.leave_eq]
  exact ⟨rfl, rfl, rfl, rfl, rfl, rfl⟩

theorem rejoined (s : State) (c : ModeCause) : Prompt s (s.enterJoining.changeMode .joining c) :=
  ⟨rfl, rfl, rfl, rfl, rfl, rfl⟩

/-- START and RESTART differ in the lane and the lock alone (R84, R90). -/
theorem begun (s : State) (l : Lane) (c : ModeCause) :
    Prompt s ((s.startingValues.withLane l).enterJoining.changeMode .joining c) :=
  (⟨rfl, rfl, rfl, rfl, rfl, rfl⟩ : Prompt s (s.startingValues.withLane l)).trans (rejoined ..)

theorem started (s : State) : Prompt s s.started :=
  (begun s s.startingValues.releaseLane.startSeeking.lane .host).trans ⟨rfl, rfl, rfl, rfl, rfl, rfl⟩

theorem restarted (s : State) : Prompt s s.restarted := by
  rw [State.restarted, State.restartTransmitter_startingValues]
  exact begun ..

theorem undrain (s : State) (i : Fin 4) : Prompt s (s.undrain i) := iteInduction (fun _ => of_same) fun _ => of_same

end Prompt

/-! ### The commands of the port -/

namespace Answered

theorem refuse (s : State) (status : Status) : Answered s (s.refuse status) := (Prompt.refl s).replied status []

theorem defineGroup (s : State) (g : Fin 256) (revert : RevertMode) (tiers : List (List Byte)) :
    Answered s (s.defineGroup g revert tiers) := by
  unfold State.defineGroup
  split
  · exact refuse ..
  · exact iteInduction (fun _ => iteInduction (fun _ => refuse ..) fun _ => Prompt.done .of_same) fun _ => refuse ..

end Answered

section Released

variable {s : State} {p : State → Prop}

theorem answersIn_portCommand_of_released (hrst : s.rstHeld = false) {effect : State → State} (taken : p (effect s)) :
    AnswersIn (portCommand s effect) p := by
  rw [portCommand_of_released hrst]
  exact answersIn_next.mpr taken

theorem answersIn_configure_of_released (hrst : s.rstHeld = false) {effect : State → State} (refused : p (s.refuse .locked))
    (taken : p (effect s)) : AnswersIn (configure s effect) p :=
  answersIn_portCommand_of_released hrst (iteInduction (fun _ => refused) fun _ => taken)

theorem answersIn_detectorCommand_of_released (hrst : s.rstHeld = false) {index : Byte} {effect : State → Fin 4 → State}
    (refused : ∀ status, p (s.refuse status)) (taken : ∀ i, p (effect s i)) :
    AnswersIn (detectorCommand index s effect) p := by
  refine answersIn_portCommand_of_released hrst ?_
  split
  · exact refused _
  · exact iteInduction (fun _ => refused _) fun _ => taken _

end Released

namespace Answered

variable {s : State}

theorem exec_setStation (hrst : s.rstHeld = false) (fingerprint : Half) (period silence : Byte) :
    AnswersIn (execSetStation fingerprint period silence s) (Answered s) := by
  refine answersIn_configure_of_released hrst (refuse ..) ?_
  split
  · exact ⟨⟨rfl, rfl, rfl, rfl, rfl, rfl⟩, trivial⟩
  · exact refuse ..

theorem exec_setUplink (hrst : s.rstHeld = false) (args : UplinkArgs) : AnswersIn (execSetUplink args s) (Answered s) := by
  refine answersIn_configure_of_released hrst (refuse ..) ?_
  split
  · exact Prompt.done .of_same
  · exact refuse ..

theorem exec_writeGroup (hrst : s.rstHeld = false) (args : List Byte) : AnswersIn (execWriteGroup args s) (Answered s) := by
  refine answersIn_configure_of_released hrst (refuse ..) ?_
  split
  · exact ⟨.of_same, trivial⟩
  · exact refuse ..
  · exact defineGroup ..

theorem exec_drain (hrst : s.rstHeld = false) (index : Byte) : AnswersIn (execDrain index s) (Answered s) := by
  refine answersIn_detectorCommand_of_released hrst (refuse s) fun i => ?_
  have drained : Prompt s (s.drain i) := .of_same (by simp [State.drain]) (by simp [State.drain]) (by simp [State.drain])
    (by simp [State.drain]) (by simp [State.drain]) (by simp [State.drain])
  split
  · exact refuse ..
  · exact (Prompt.refl s).done
  all_goals exact drained.done

theorem exec_undrain (hrst : s.rstHeld = false) (index : Byte) : AnswersIn (execUndrain index s) (Answered s) := by
  refine answersIn_detectorCommand_of_released hrst (refuse s) fun i => ?_
  split
  · exact (Prompt.undrain s i).done
  all_goals exact refuse ..

theorem exec_release (hrst : s.rstHeld = false) (index : Byte) : AnswersIn (execRelease index s) (Answered s) := by
  refine answersIn_detectorCommand_of_released hrst (refuse s) fun i => ?_
  dsimp only
  split
  · exact Prompt.done .of_same
  all_goals exact refuse ..

theorem exec_resteer (hrst : s.rstHeld = false) (group : Byte) : AnswersIn (execResteer group s) (Answered s) :=
  answersIn_portCommand_of_released hrst
    (iteInduction (fun _ => refuse ..) fun _ => iteInduction (fun _ => refuse ..) fun _ => Prompt.done .of_same)

theorem exec_leave (hrst : s.rstHeld = false) : AnswersIn (execLeave s) (Answered s) := by
  refine answersIn_portCommand_of_released hrst ?_
  split
  · exact refuse ..
  · exact (Prompt.refl s).done
  all_goals exact (Prompt.leave s).done

theorem exec_rejoin (hrst : s.rstHeld = false) : AnswersIn (execRejoin s) (Answered s) := by
  refine answersIn_portCommand_of_released hrst ?_
  split
  · exact (Prompt.rejoined s _).done
  · exact (Prompt.rejoined s _).done
  all_goals exact refuse ..

theorem exec_setEventReporting (hrst : s.rstHeld = false) (trigger timeout : Byte) :
    AnswersIn (execSetEventReporting trigger timeout s) (Answered s) := by
  refine answersIn_portCommand_of_released hrst ?_
  split
  · exact Prompt.done .of_same
  · exact refuse ..

theorem exec_readEvents (hrst : s.rstHeld = false) (n : Byte) : AnswersIn (execReadEvents n s) (Answered s) :=
  answersIn_portCommand_of_released hrst (iteInduction (fun _ => Prompt.replied .of_same ..) fun _ => refuse ..)

theorem exec_readMap (hrst : s.rstHeld = false) (which : Byte) : AnswersIn (execReadMap which s) (Answered s) := by
  have cleared (map : Table MapEntry 64) : Prompt s { s with map := map } := ⟨rfl, rfl, rfl, rfl, rfl, rfl⟩
  refine answersIn_portCommand_of_released hrst ?_
  split
  · exact (cleared _).replied ..
  · exact iteInduction (fun _ => (cleared _).replied ..) fun _ => refuse ..

theorem exec_unknownCommand (hrst : s.rstHeld = false) (code : Byte) : AnswersIn (execUnknownCommand code s) (Answered s) :=
  answersIn_portCommand_of_released hrst (refuse ..)

theorem exec_clearGroup (hrst : s.rstHeld = false) (group : Byte) : AnswersIn (execClearGroup group s) (Answered s) :=
  answersIn_configure_of_released hrst (refuse ..) (Prompt.done .of_same)

theorem exec_start (hrst : s.rstHeld = false) : AnswersIn (execStart s) (Answered s) :=
  answersIn_portCommand_of_released hrst
    (iteInduction (fun _ => (Prompt.started s).done) fun _ => refuse ..)

theorem exec_restart (hrst : s.rstHeld = false) : AnswersIn (execRestart s) (Answered s) :=
  answersIn_portCommand_of_released hrst
    (iteInduction (fun _ => refuse ..) fun _ => (Prompt.restarted s).done)

theorem exec_readStatus (hrst : s.rstHeld = false) : AnswersIn (execReadStatus s) (Answered s) :=
  answersIn_portCommand_of_released hrst (Prompt.replied .of_same ..)

theorem exec_readRoster (hrst : s.rstHeld = false) : AnswersIn (execReadRoster s) (Answered s) :=
  answersIn_portCommand_of_released hrst ((Prompt.refl s).replied ..)

theorem exec_readGroup (hrst : s.rstHeld = false) (group : Byte) : AnswersIn (execReadGroup group s) (Answered s) :=
  answersIn_portCommand_of_released hrst ((Prompt.refl s).replied ..)

theorem exec_probe (hrst : s.rstHeld = false) (group : Byte) (hash : Half) : AnswersIn (execProbe group hash s) (Answered s) :=
  answersIn_portCommand_of_released hrst ((Prompt.refl s).replied ..)

/-- With RST released every command of the port is taken, or ends its frame. -/
theorem afterCommand (hrst : s.rstHeld = false) {c : Instr} (hc : c.comesAtPort = true) :
    AnswersIn (exec c s) (Answered s) := by
  cases c with
  | frameDiscard => exact answersIn_portCommand_of_released hrst ⟨.of_same, trivial⟩
  | unknownCommand code => exact exec_unknownCommand hrst code
  | setStation fingerprint period silence => exact exec_setStation hrst ..
  | setUplink args => exact exec_setUplink hrst args
  | writeGroup args => exact exec_writeGroup hrst args
  | clearGroup group => exact exec_clearGroup hrst group
  | start => exact exec_start hrst
  | drain index => exact exec_drain hrst index
  | undrain index => exact exec_undrain hrst index
  | release index => exact exec_release hrst index
  | resteer group => exact exec_resteer hrst group
  | leave => exact exec_leave hrst
  | rejoin => exact exec_rejoin hrst
  | restart => exact exec_restart hrst
  | setEventReporting trigger timeout => exact exec_setEventReporting hrst ..
  | readStatus => exact exec_readStatus hrst
  | readEvents n => exact exec_readEvents hrst n
  | readMap which => exact exec_readMap hrst which
  | readRoster => exact exec_readRoster hrst
  | readGroup group => exact exec_readGroup hrst group
  | probe group hash => exact exec_probe hrst group hash
  | _ => cases hc

end Answered

/-! ### Every other command but the two of RST -/

namespace Aside

variable {s t : State}

theorem of_same (pending : t.pending = s.pending := by simp) (pins : t.pins = s.pins := by simp)
    (drawn : t.drawn = s.drawn := by simp) (rstHeld : t.rstHeld = s.rstHeld := by simp) (ticks : t.ticks = s.ticks := by simp)
    (station : t.station = s.station := by simp) (port : t.port = s.port := by simp) : Aside s t :=
  ⟨.of_same pending pins drawn rstHeld ticks station, port⟩

theorem refl (s : State) : Aside s s := ⟨.refl s, rfl⟩

theorem withLane (s : State) (l : Lane) : Aside s (s.withLane l) := of_same

theorem dropped (s : State) (f : LaneFlags) : Aside s (s.withFlags f).discard := of_same

theorem receive (s : State) (n : RxNotice) : Aside s (s.receive n) := by
  unfold State.receive
  dsimp only
  split
  · exact dropped ..
  · exact dropped ..
  · exact iteInduction (fun _ => dropped ..) fun _ => of_same
  · exact iteInduction (fun _ => of_same) fun _ => of_same

theorem take (s : State) : Aside s s.take := by
  unfold State.take
  split
  · exact of_same
  · split <;> exact of_same

/-! ### Lines and detector timers -/

theorem exec_heartbeatPulse (s : State) (i : Fin 4) : AnswersIn (execHeartbeatPulse i s) (Aside s) := by
  refine answersIn_ite (fun _ => ?_) fun _ => refl s
  split <;> exact of_same

theorem exec_restoreHoldExpiry (s : State) (i : Fin 4) : AnswersIn (execRestoreHoldExpiry i s) (Aside s) := by
  refine answersIn_ite (fun _ => ?_) fun _ => refl s
  split <;> exact of_same

/-! ### The lane -/

theorem exec_abortPatternEnd (s : State) : AnswersIn (execAbortPatternEnd s) (Aside s) := by
  refine answersIn_ite (fun _ => ?_) fun _ => refl s
  split <;> exact of_same

theorem exec_noticeCompleted (s : State) (slots : StationSet) : AnswersIn (execNoticeCompleted slots s) (Aside s) := by
  refine answersIn_next.mpr ?_
  split
  · exact of_same
  · exact refl s

theorem trans {u : State} (h : Aside s t) (h' : Aside t u) : Aside s u :=
  ⟨h.toPrompt.trans h'.toPrompt, h'.port.trans h.port⟩

theorem exec_noticeDecision (s : State) (n : RxNotice) : AnswersIn (execNoticeDecision n s) (Aside s) := by
  have moved : Aside s (if s.lane.tx = .sending then s.withLane { s.lane with tx := .closing } else s) :=
    iteInduction (fun _ => withLane ..) fun _ => refl s
  exact answersIn_ite (fun _ => moved.trans (receive _ n)) fun _ => moved

/-! ### Timers, the engine and the lookup port -/

theorem exec_silenceTimerExpiry (s : State) (k : Fin 16) : AnswersIn (execSilenceTimerExpiry k s) (Aside s) := by
  have lost : Aside s (if (s.roster.slots.get k).silence.isSome then s.fallSilent k else s) :=
    iteInduction (fun _ => of_same) fun _ => refl s
  refine answersIn_next.mpr ?_
  split
  · exact lost
  · exact lost
  · exact lost
  all_goals exact refl s

theorem exec_evaluationCommit (s : State) : AnswersIn (execEvaluationCommit s) (Aside s) := by
  refine answersIn_next.mpr ?_
  split
  · exact refl s
  · exact of_same
  · exact of_same

theorem exec_lookupService (s : State) : AnswersIn (execLookupService s) (Aside s) := by
  refine answersIn_next.mpr ?_
  split
  · exact of_same
  all_goals exact refl s

theorem exec_takeService (s : State) : AnswersIn (execTakeService s) (Aside s) := by
  refine answersIn_next.mpr ?_
  split
  · exact take s
  all_goals exact refl s

/-- Every command but those of the port and of RST leaves the port. -/
theorem afterCommand {c : Instr} (hport : c.comesAtPort = false) (hrst : c.movesRst = false) (s : State) :
    AnswersIn (exec c s) (Aside s) := by
  have lane {c : Instr} (hc : c.reachesLaneAlone = true) : AnswersIn (exec c s) (Aside s) :=
    (exec_of_reachesLaneAlone hc s).imp fun _ ⟨l, h⟩ => h ▸ withLane s l
  cases c with
  | lookupRequest | takeRequest => exact answersIn_ite (fun _ => of_same) fun _ => refl s
  | lookupService => exact exec_lookupService s
  | takeService => exact exec_takeService s
  | losChange | lockChange => exact answersIn_ite (fun _ => of_same) fun _ => of_same
  | heartbeatPulse i => exact exec_heartbeatPulse s i
  | restoreHoldExpiry i => exact exec_restoreHoldExpiry s i
  | quietGapEnd | laneDominantLevel | arbitrationLost | arbitrationWon | txMismatch | receiveAbort | receiveTruncation
  | badStartMark | receivedNoticeEnd => exact lane rfl
  | heartbeatWatchdogExpiry | qualifyTimerExpiry | stabilityTimerExpiry | noticeStartOffer | beaconTimerExpiry
  | joinWindowExpiry | idleTimerExpiry => exact answersIn_ite (fun _ => of_same) fun _ => refl s
  | cooldownExpiry => exact answersIn_ite (fun _ => ⟨.rejoined s _, rfl⟩) fun _ => refl s
  | abortPatternEnd => exact exec_abortPatternEnd s
  | noticeCompleted slots => exact exec_noticeCompleted s slots
  | noticeDecision n => exact exec_noticeDecision s n
  | silenceTimerExpiry k => exact exec_silenceTimerExpiry s k
  | evaluationCommit => exact exec_evaluationCommit s
  | fullReset | rstRelease => cases hrst
  | _ => cases hport

end Aside

end Sys2Proof.Machine

/-! SUPPORT. The lock, OFFLINE, RST and the frame after every command, every edge and every step (R148, R149, R151). -/

namespace Sys2Proof.Machine

/-- Every command but the two of RST is prompt. -/
theorem prompt_afterCommand {c : Instr} (hmoves : c.movesRst = false) (s : State) : AnswersIn (exec c s) (Prompt s) := by
  cases hport : c.comesAtPort with
  | false => exact (Aside.afterCommand hport hmoves s).imp fun _ h => h.toPrompt
  | true =>
    cases hrst : s.rstHeld with
    | true =>
      rw [exec_of_held hrst hport]
      exact answersIn_next.mpr (.refl s)
    | false => exact (Answered.afterCommand hrst hport).imp fun _ h => h.toPrompt

theorem heldLaw_of_released {s : State} (hrst : s.rstHeld = false) : HeldLaw s := fun hheld => by simp [hrst] at hheld

/-! ### RST held: OFFLINE (R19, R140) -/

/-- Held, no command moves a part at rest; and FULL_RESET alone takes RST low, into OFFLINE. -/
theorem heldLaw_afterCommand {s : State} (hs : HeldLaw s) (hphase : Resting s ∨ Running s) (c : Instr) :
    AnswersIn (exec c s) HeldLaw := by
  cases hmoves : c.movesRst with
  | true =>
    cases c with
    | fullReset straps => exact answersIn_next.mpr fun _ => rfl
    | rstRelease => exact answersIn_ite (fun _ => heldLaw_of_released rfl) fun _ => hs
    | _ => cases hmoves
  | false =>
    cases hrst : s.rstHeld with
    | true =>
      have hrest : Resting s := hphase.resolve_right fun hrun => hrun.mode (hs hrst)
      by_cases hc : c = .start
      · subst hc
        rw [exec_of_held hrst rfl]
        exact answersIn_next.mpr hs
      · exact (hrest.afterCommand hc).imp fun _ h _ => h.mode
    | false => exact (prompt_afterCommand hmoves s).imp fun _ h => heldLaw_of_released (h.rstHeld.trans hrst)

/-- The lock, OFFLINE and RST agree after every step. -/
theorem phase_afterStep {s : State} (hs : (Resting s ∨ Running s) ∧ HeldLaw s) :
    AnswersIn (step s) fun t => (Resting t ∨ Running t) ∧ HeldLaw t := by
  have same {s t : State} (h : (Resting s ∨ Running s) ∧ HeldLaw s) (rstHeld : t.rstHeld = s.rstHeld)
      (roster : t.roster = s.roster) (locked : t.port.locked = s.port.locked) (map : t.map = s.map)
      (detectors : t.detectors = s.detectors) (lane : t.lane = s.lane) (engine : t.engine = s.engine) :
      (Resting t ∨ Running t) ∧ HeldLaw t := by
    obtain ⟨hphase, hheld⟩ := h
    refine ⟨hphase.imp (fun hrest => ?_) fun hrun => hrun.of_same roster locked, fun hrst => ?_⟩
    · exact hrest.of_same roster locked (fun u => by rw [map]) detectors (by rw [lane]) (by rw [lane]) (by rw [engine])
        (by rw [engine]) (by rw [engine])
    · rw [roster]
      exact hheld (rstHeld ▸ hrst)
  refine step_keeps (p := fun t => (Resting t ∨ Running t) ∧ HeldLaw t)
    (fun _ _ _ _ h => same h rfl rfl rfl rfl rfl rfl rfl)
    (fun _ _ h => same h rfl rfl rfl rfl rfl rfl rfl) (fun s h => ?_)
    (fun c _ ⟨hphase, hheld⟩ => (phase_afterCommand hphase c).and (heldLaw_afterCommand hheld hphase c)) hs
  unfold State.tick
  split
  · exact h
  · exact same h rfl rfl rfl rfl rfl rfl rfl

/-! ### The frame (R148, R149) -/

theorem frameLaw_of_settled {s : State} (hframe : s.port.frame.Settled) (hrst : s.rstHeld = false) : FrameLaw s := by
  unfold FrameLaw
  split
  · trivial
  · trivial
  · next h =>
    rw [h] at hframe
    exact hframe.elim
  · exact hrst

theorem frameLaw_congr {s t : State} (port : t.port = s.port) (rstHeld : t.rstHeld = s.rstHeld) :
    FrameLaw t ↔ FrameLaw s := by
  rw [FrameLaw, FrameLaw, port, rstHeld]

/-- A frame in progress, its command taken or not, stands with RST released. -/
theorem frameLaw_release {s : State} (hs : FrameLaw s) : FrameLaw { s with rstHeld := false } := by
  unfold FrameLaw at hs ⊢
  dsimp only
  split
  · trivial
  · trivial
  · next h =>
    simp only [h] at hs
    exact ⟨rfl, hs.2⟩
  · rfl

theorem frameLaw_fullReset (code : Fin 16) (los lock : Fin 4 → Bool) (mcs held : Bool) (pending : List Instr)
    (pins : List PortPin) (drawn : Nat) : FrameLaw (.fullReset code los lock mcs held pending pins drawn) := by
  cases mcs <;> trivial

theorem frameLaw_afterCommand {s : State} (hs : FrameLaw s) (c : Instr) : AnswersIn (exec c s) FrameLaw := by
  cases hmoves : c.movesRst with
  | true =>
    cases c with
    | fullReset straps => exact answersIn_next.mpr (frameLaw_fullReset ..)
    | rstRelease => exact answersIn_ite (fun _ => frameLaw_release hs) fun _ => hs
    | _ => cases hmoves
  | false =>
    cases hport : c.comesAtPort with
    | false => exact (Aside.afterCommand hport hmoves s).imp fun _ h => (frameLaw_congr h.port h.rstHeld).mpr hs
    | true =>
      cases hrst : s.rstHeld with
      | true =>
        rw [exec_of_held hrst hport]
        exact answersIn_next.mpr hs
      | false =>
        exact (Answered.afterCommand hrst hport).imp fun _ h => frameLaw_of_settled h.settled (h.rstHeld.trans hrst)

/-- A bit joins the byte coming in, or the byte is whole and the bytes spell a command or none yet. -/
theorem frameLaw_takeBit {s : State} (hs : FrameLaw s) (hrst : s.rstHeld = false) (bytes : List Byte) {bits : List Bool}
    (hspells : readFrame s.port.locked bytes = none) : AnswersIn (takeBit s bytes bits) FrameLaw := by
  unfold takeBit
  split
  · next hshort => exact answersIn_next.mpr ⟨hrst, hshort, hspells⟩
  · dsimp only
    split
    · exact frameLaw_afterCommand hs _
    · next hnone => exact answersIn_next.mpr ⟨hrst, Nat.zero_lt_succ 7, hnone⟩

theorem frameLaw_mckRise {s : State} (hs : FrameLaw s) (mdi : Bool) : AnswersIn (takeMckRise mdi s) FrameLaw := by
  unfold takeMckRise
  split
  · exact answersIn_next.mpr hs
  · next hrst =>
    split
    · exact answersIn_next.mpr hs
    · exact answersIn_next.mpr hs
    · exact answersIn_next.mpr hs
    · next h =>
      have hopening := hs
      simp only [FrameLaw, h] at hopening
      exact frameLaw_takeBit hs hopening.1 _ hopening.2.2

theorem frameLaw_mcsRise {s : State} (hs : FrameLaw s) : AnswersIn (takeMcsRise s) FrameLaw := by
  unfold takeMcsRise
  split
  · split
    · exact answersIn_next.mpr trivial
    · exact frameLaw_afterCommand hs _
  all_goals exact answersIn_next.mpr trivial

theorem frameLaw_mcsFall {s : State} (hs : FrameLaw s) : AnswersIn (takeMcsFall s) FrameLaw := by
  refine answersIn_ite (fun _ => trivial) fun hrst => ?_
  split
  · exact ⟨Bool.eq_false_of_not_eq_true hrst, Nat.zero_lt_succ 7, rfl⟩
  all_goals exact hs

theorem frameLaw_mckFall {s : State} (hs : FrameLaw s) : AnswersIn (takeMckFall s) FrameLaw := by
  refine answersIn_ite (fun _ => hs) fun hrst => ?_
  split
  · exact hs
  · exact hs
  · exact hs
  · exact Bool.eq_false_of_not_eq_true hrst

theorem frameLaw_afterEdge {s : State} (hs : FrameLaw s) (edge : PortPin) : AnswersIn (takePin edge s) FrameLaw := by
  cases edge with
  | mcsFall => exact frameLaw_mcsFall hs
  | mckRise mdi => exact frameLaw_mckRise hs mdi
  | mckFall => exact frameLaw_mckFall hs
  | mcsRise => exact frameLaw_mcsRise hs

theorem frameLaw_tick {s : State} (hs : FrameLaw s) : FrameLaw s.tick :=
  iteInduction (fun _ => hs) fun _ => (frameLaw_congr (s := s) rfl rfl).mpr hs

/-- The frame is lawful after every step. -/
theorem frameLaw_afterStep {s : State} (hs : FrameLaw s) : AnswersIn (step s) FrameLaw := by
  have queued (pending : List Instr) (pins : List PortPin) (drawn : Nat) : FrameLaw (s.queued pending pins drawn) :=
    (frameLaw_congr (s := s) rfl rfl).mpr hs
  unfold step
  split
  · exact frameLaw_afterCommand (queued _ s.pins s.drawn) _
  · unfold idleStep
    split
    · exact frameLaw_afterEdge (queued s.pending _ s.drawn) _
    · obtain ⟨c, drawn, h⟩ | h := ownStep_cases s <;> rw [h]
      · exact frameLaw_afterCommand (queued ..) c
      · exact answersIn_next.mpr (frameLaw_tick hs)

end Sys2Proof.Machine

/-! PROOF. What every step keeps of the lock, the rest and the frame, and that every command answers a next state. -/

namespace Sys2Proof.ManagementPort

open Sys2Proof.Machine

/-- Settles O56: the two phases with RST go together, and the frame goes by itself, which only commands of the port settle. -/
theorem stepKeepsLockAndRest : Obligations.StepKeepsLockAndRest := by
  unfold Obligations.StepKeepsLockAndRest
  intro s s' hstep
  refine ⟨fun ⟨hlock, hoffline, hheld⟩ => ?_, fun hframe => (frameLaw_afterStep hframe).of_eq_next hstep⟩
  obtain ⟨hphase, hheld'⟩ := (phase_afterStep ⟨(lockAndOffline_iff s).mp ⟨hlock, hoffline⟩, hheld⟩).of_eq_next hstep
  obtain ⟨hlock', hoffline'⟩ := (lockAndOffline_iff s').mpr hphase
  exact ⟨hlock', hoffline', hheld'⟩

/-- Settles O2: FULL_RESET and RST_RELEASE by what they are, and every other command is prompt. -/
theorem everyCommandAnswersANextState : Obligations.EveryCommandAnswersANextState := by
  unfold Obligations.EveryCommandAnswersANextState
  intro c s
  cases hmoves : c.movesRst with
  | true =>
    cases c with
    | fullReset straps => exact ⟨_, rfl, rfl, rfl, rfl, fun hother => absurd rfl (hother straps)⟩
    | rstRelease =>
      refine ⟨_, rfl, ?_⟩
      split <;> exact ⟨rfl, rfl, rfl, fun _ => ⟨rfl, rfl⟩⟩
    | _ => cases hmoves
  | false =>
    obtain ⟨t, hexec, h⟩ := prompt_afterCommand hmoves s
    exact ⟨t, hexec, h.pending, h.pins, h.drawn, fun _ => ⟨h.ticks, h.code⟩⟩

end Sys2Proof.ManagementPort

/-! SUPPORT. What a command of the management port answers: one equation per way the port takes a command or refuses it (R148 to
R151), and the command a frame's bytes spell (R152 to R162). -/

namespace Sys2Proof.Machine

/-! ### Commands refused -/

theorem refuse_eq_answered (s : State) (status : Status) : s.refuse status = answered s [status.byte] := rfl

section Released

variable {s : State}

theorem configure_of_locked (hrst : s.rstHeld = false) (hlocked : s.port.locked = true) (effect : State → State) :
    configure s effect = .next (answered s [1#8]) := by
  rw [configure, portCommand_of_released hrst, if_pos hlocked]
  rfl

theorem configure_of_unlocked (hrst : s.rstHeld = false) (hopen : s.port.locked = false) (effect : State → State) :
    configure s effect = .next (effect s) := by
  rw [configure, portCommand_of_released hrst, if_neg (Bool.not_eq_true _ ▸ hopen)]

/-- With the lock closed a configuration command is refused whatever its arguments (R151). -/
theorem exec_of_locked (hrst : s.rstHeld = false) (hlocked : s.port.locked = true) (h : Half) (a b : Byte) (args : UplinkArgs)
    (bytes : List Byte) :
    ∀ c ∈ [Instr.setStation h a b, .setUplink args, .writeGroup bytes, .clearGroup a], exec c s = .next (answered s [1#8]) := by
  simp only [List.forall_mem_cons, List.not_mem_nil, false_implies, implies_true, and_true, exec, execSetStation, execSetUplink,
    execWriteGroup, execClearGroup, configure_of_locked hrst hlocked]

theorem localIndexArg_of_ge {b : Byte} (hb : 4 ≤ b.toNat) : localIndexArg b = none := dif_neg (by omega)

theorem localIndexArg_of_lt {b : Byte} (hb : b.toNat < 4) : localIndexArg b = some ⟨b.toNat, hb⟩ := dif_pos hb

theorem detectorCommand_of_ge (hrst : s.rstHeld = false) {b : Byte} (hb : 4 ≤ b.toNat) (effect : State → Fin 4 → State) :
    detectorCommand b s effect = .next (answered s [4#8]) := by
  rw [detectorCommand, portCommand_of_released hrst, localIndexArg_of_ge hb]
  rfl

theorem detectorCommand_of_offline (hrst : s.rstHeld = false) (hmode : s.roster.mode = .offline) {b : Byte} (hb : b.toNat < 4)
    (effect : State → Fin 4 → State) : detectorCommand b s effect = .next (answered s [2#8]) := by
  simp only [detectorCommand, portCommand_of_released hrst, localIndexArg_of_lt hb, if_pos hmode]
  rfl

/-- A command that names a detector is refused for its index before its mode (R156). -/
theorem exec_detectorCommands_of_ge (hrst : s.rstHeld = false) {b : Byte} (hb : 4 ≤ b.toNat) :
    ∀ c ∈ [Instr.drain b, .undrain b, .release b], exec c s = .next (answered s [4#8]) := by
  simp only [List.forall_mem_cons, List.not_mem_nil, false_implies, implies_true, and_true, exec, execDrain, execUndrain,
    execRelease, detectorCommand_of_ge hrst hb]

theorem exec_detectorCommands_of_offline {b : Byte} (hrst : s.rstHeld = false) (hmode : s.roster.mode = .offline)
    (hb : b.toNat < 4) : ∀ c ∈ [Instr.drain b, .undrain b, .release b], exec c s = .next (answered s [2#8]) := by
  simp only [List.forall_mem_cons, List.not_mem_nil, false_implies, implies_true, and_true, exec, execDrain, execUndrain,
    execRelease, detectorCommand_of_offline hrst hmode hb]

theorem exec_modeCommands_of_offline (hrst : s.rstHeld = false) (hmode : s.roster.mode = .offline) (b : Byte) :
    ∀ c ∈ [Instr.resteer b, .leave, .rejoin, .restart], exec c s = .next (answered s [2#8]) := by
  simp only [List.forall_mem_cons, List.not_mem_nil, false_implies, implies_true, and_true, exec, execResteer, execLeave,
    execRejoin, execRestart, portCommand_of_released hrst, hmode, if_true, refuse_eq_answered, Status.byte]

theorem exec_start_of_not_offline (hrst : s.rstHeld = false) (hmode : s.roster.mode ≠ .offline) :
    exec .start s = .next (answered s [2#8]) := by
  rw [exec, execStart, portCommand_of_released hrst, if_neg hmode]
  rfl

theorem exec_rejoin_of_joining_or_active (hrst : s.rstHeld = false)
    (hmode : s.roster.mode = .joining ∨ s.roster.mode = .active) :
    exec .rejoin s = .next (answered s [2#8]) := by
  rw [exec, execRejoin, portCommand_of_released hrst]
  obtain hmode | hmode := hmode
  all_goals
    rw [hmode]
    rfl

theorem exec_resteer_of_unconfigured {b : Byte} (hrst : s.rstHeld = false) (hmode : s.roster.mode ≠ .offline)
    (hgroup : (s.groups.get b.toFin).configured = false) : exec (.resteer b) s = .next (answered s [4#8]) := by
  rw [exec, execResteer, portCommand_of_released hrst]
  dsimp only [groupArg]
  rw [if_neg hmode, if_pos hgroup]
  rfl

end Released

/-! ### The command a frame spells (R149, R151 to R162) -/

theorem readArguments_of_unknown {code : Byte} (hcode : commandCodes.contains code = false) (locked : Bool) (args : List Byte) :
    readArguments locked code args = some (.unknownCommand code) := by
  have hnone : code.toNat ∉ commandCodes.map BitVec.toNat := by
    simpa [BitVec.toNat_inj] using hcode
  simp only [commandCodes, List.map_cons, List.map_nil, List.mem_cons, List.not_mem_nil, or_false, not_or] at hnone
  unfold readArguments
  split <;> simp_all

/-- WRITE GROUP is taken where its frame is complete or bad (R154). -/
theorem readFrame_writeGroup (args : List Byte) : readFrame false (3#8 :: args) =
    if readGroupFrame args = .incomplete then none else some (.writeGroup args) := by
  cases h : readGroupFrame args <;> simp [readFrame, readArguments, unlessLocked, h]

/-- With the lock closed a configuration command is taken at its command byte, and refused (R151). -/
theorem readFrame_of_locked {code : Byte} (hcode : code ∈ [1#8, 2#8, 3#8, 4#8]) {s : State} (hrst : s.rstHeld = false)
    (hlocked : s.port.locked = true) :
    ∃ c : Instr, readFrame true [code] = some c ∧ exec c s = .next (answered s [1#8]) := by
  have refused := exec_of_locked hrst hlocked 0 0 0 ⟨0, 0, 0, 0, 0, 0, 0, 0⟩ []
  simp only [List.mem_cons, List.not_mem_nil, or_false] at hcode
  obtain rfl | rfl | rfl | rfl := hcode
  all_goals exact ⟨_, rfl, refused _ (by simp)⟩

/-- A frame spells its command once its last argument byte is there, and none before. -/
theorem framesSpellCommands : FramesSpellCommands := by
  unfold FramesSpellCommands
  refine ⟨fun locked => ⟨rfl, fun code rest h => readArguments_of_unknown h locked rest, ?_, ?_, ?_⟩, ?_, ?_,
    readFrame_writeGroup, fun a => ⟨rfl, rfl⟩, fun code hcode s => readFrame_of_locked hcode⟩
  · simp only [List.forall_mem_cons, List.not_mem_nil, false_implies, implies_true, and_true]
    exact ⟨rfl, rfl, rfl, rfl, rfl, rfl⟩
  · intro b
    simp only [List.forall_mem_cons, List.not_mem_nil, false_implies, implies_true, and_true]
    exact ⟨⟨rfl, rfl⟩, ⟨rfl, rfl⟩, ⟨rfl, rfl⟩, ⟨rfl, rfl⟩, ⟨rfl, rfl⟩, ⟨rfl, rfl⟩, rfl, rfl⟩
  · exact fun a b c => ⟨rfl, rfl, rfl, rfl, rfl, rfl, rfl⟩
  · refine fun a b c d => ⟨fun k hk => ?_, rfl⟩
    interval_cases k <;> rfl
  · refine fun a b c d e f g h i j => ⟨fun k hk => ?_, rfl⟩
    interval_cases k <;> rfl

end Sys2Proof.Machine

/-! SUPPORT. The arguments of the management port's commands by their bytes (R152, R153, R158, R173), the Event Queue's pop and
the layouts of the replies (R59, R98, R166; 11). -/

namespace Sys2Proof.Machine

/-! ### SET STATION's arguments (R152) -/

theorem beaconPeriodArg_eq_none {b : Byte} : beaconPeriodArg b = none ↔ 5 < b.toNat := by
  revert b
  decide

/-- The six beacon periods by their codes. -/
theorem beaconPeriodArg_of_mem {p : Byte × BeaconPeriod}
    (hp : p ∈ [(0#8, BeaconPeriod.ms0p5), (1#8, .ms1), (2#8, .ms2), (3#8, .ms4), (4#8, .ms8), (5#8, .ms16)]) :
    beaconPeriodArg p.1 = some p.2 := by
  revert p
  decide

theorem silenceCountArg_of_mem {b : Byte} (hmin : 2 ≤ b.toNat) (hmax : b.toNat ≤ 8) : silenceCountArg b = some b.toNat :=
  if_pos ⟨hmin, hmax⟩

theorem silenceCountArg_of_not_mem {b : Byte} (hb : b.toNat < 2 ∨ 8 < b.toNat) : silenceCountArg b = none :=
  if_neg (by omega)

section Station

variable {s : State} (hrst : s.rstHeld = false) (hopen : s.port.locked = false) (fingerprint : Half) {period silence : Byte}
include hrst hopen

theorem exec_setStation_of_some {p : BeaconPeriod} {c : Nat} (hperiod : beaconPeriodArg period = some p)
    (hsilence : silenceCountArg silence = some c) : exec (.setStation fingerprint period silence) s =
      .next (answered { s with station := ⟨s.station.code, fingerprint, p, c⟩ } [0#8]) := by
  simp only [exec, execSetStation, configure_of_unlocked hrst hopen, hperiod, hsilence]
  rfl

theorem exec_setStation_of_none (harg : beaconPeriodArg period = none ∨ silenceCountArg silence = none) :
    exec (.setStation fingerprint period silence) s = .next (answered s [4#8]) := by
  simp only [exec, execSetStation, configure_of_unlocked hrst hopen]
  split
  · next hperiod hsilence => simp [hperiod, hsilence] at harg
  · rfl

end Station

/-! ### SET UPLINK's arguments (R22, R153, R173) -/

theorem bitArg_eq (b : Byte) : bitArg b = if b.toNat ≤ 1 then some (b == 1#8) else none := by
  revert b
  decide

theorem clearModeArg_eq (b : Byte) :
    clearModeArg b = if b.toNat ≤ 1 then some (if b = 1#8 then .held else .auto) else none := by
  revert b
  decide

theorem maskArg_eq (b : Byte) : maskArg b = if b.toNat ≤ 7 then some (b.setWidth 3) else none := by
  revert b
  decide

theorem qualifyArg_eq_none {b : Byte} : qualifyArg b = none ↔ 3 < b.toNat := by
  revert b
  decide

/-- The four qualify times by their codes. -/
theorem qualifyArg_of_mem {q : Byte × QualifyTime}
    (hq : q ∈ [(0#8, QualifyTime.us0), (1#8, .us25), (2#8, .us100), (3#8, .us400)]) : qualifyArg q.1 = some q.2 := by
  revert q
  decide

theorem uplinkConfigArg_of_valid {a : UplinkArgs} (ha : ValidUplink a) {i : Fin 4} (hi : i.val = a.index.toNat)
    {tq : QualifyTime} (htq : qualifyArg a.tq = some tq) :
    uplinkConfigArg a = some (i, ⟨a.enabled == 1#8, a.mask.setWidth 3, tq, a.hbMin.toNat, a.hbMax.toNat, a.n.toNat,
      if a.clearMode = 1#8 then .held else .auto⟩) := by
  obtain ⟨hindex, henabled, hmask, -, hlo, hhi, hle, hn, hn', hmode⟩ := ha
  have hlocal : localIndexArg a.index = some i := by
    rw [localIndexArg_of_lt (by omega)]
    exact congrArg some (Fin.ext hi.symm)
  have hrange : 1 ≤ a.hbMin.toNat ∧ a.hbMin.toNat ≤ 4095 ∧ 1 ≤ a.hbMax.toNat ∧ a.hbMax.toNat ≤ 4095 ∧
      a.hbMin.toNat ≤ a.hbMax.toNat ∧ 1 ≤ a.n.toNat ∧ a.n.toNat ≤ 32 := by omega
  simp only [uplinkConfigArg, hlocal, bitArg_eq, if_pos henabled, maskArg_eq, if_pos hmask, htq, clearModeArg_eq, if_pos hmode,
    Option.bind_eq_bind, Option.bind_some, if_pos hrange]

theorem valid_of_uplinkConfigArg {a : UplinkArgs} {r : Fin 4 × UplinkConfig} (h : uplinkConfigArg a = some r) :
    ValidUplink a := by
  simp only [uplinkConfigArg, Option.bind_eq_bind, Option.bind_eq_some_iff, Option.ite_none_right_eq_some] at h
  obtain ⟨_, hlocal, _, henabled, _, hmask, _, htq, _, hmode, hrange, -⟩ := h
  rw [bitArg_eq, Option.ite_none_right_eq_some] at henabled
  rw [maskArg_eq, Option.ite_none_right_eq_some] at hmask
  rw [clearModeArg_eq, Option.ite_none_right_eq_some] at hmode
  have hindex : a.index.toNat < 4 := by
    by_contra hge
    simp [localIndexArg_of_ge (not_lt.mp hge)] at hlocal
  have htime : a.tq.toNat ≤ 3 := by
    by_contra hgt
    simp [qualifyArg_eq_none.mpr (not_le.mp hgt)] at htq
  unfold ValidUplink
  omega

theorem uplinkConfigArg_of_not_valid {a : UplinkArgs} (ha : ¬ ValidUplink a) : uplinkConfigArg a = none :=
  Option.eq_none_iff_forall_ne_some.mpr fun _ h => ha (valid_of_uplinkConfigArg h)

/-! ### SET EVENT REPORTING's argument and the idle timer (R158, R166 to R168) -/

theorem triggerArg_eq_none {b : Byte} : triggerArg b = none ↔ b ∉ [1#8, 4#8, 8#8, 16#8] := by
  revert b
  decide

/-- The four trigger levels by their bytes. -/
theorem triggerArg_of_mem {p : Byte × TriggerLevel}
    (hp : p ∈ [(1#8, TriggerLevel.one), (4#8, .four), (8#8, .eight), (16#8, .sixteen)]) : triggerArg p.1 = some p.2 := by
  revert p
  decide

/-- The idle timer runs while records are held and the timeout is not 0, in units of 100 µs (R167, R168). -/
theorem EventQueue.idleTimer_eq (q : EventQueue) (t : Nat) (held : List Event) :
    (if held.isEmpty then none else q.idleStart t) =
      if held = [] ∨ q.idleTimeout = 0#8 then none else some (t + q.idleTimeout.toNat * 2000) := by
  cases held with
  | nil => simp
  | cons e held => simp [EventQueue.idleStart, Config.idleUnitTicks, Config.ticksPerUs]

theorem EventQueue.pop_of_empty {q : EventQueue} (h : q.records = []) (t n : Nat) : q.pop t n = q := by simp [EventQueue.pop, h]

theorem EventQueue.pop_of_ne_empty {q : EventQueue} (h : q.records ≠ []) (t : Nat) {n : Nat} (hn : 1 ≤ n) :
    q.pop t n = { q with
      records := q.records.drop n
      idleExpired := false
      idleTimer := if q.records.length ≤ n ∨ q.idleTimeout = 0#8 then none else some (t + q.idleTimeout.toNat * 2000) } := by
  have hpop : ¬ ((q.records.isEmpty || n == 0) = true) := by
    simpa [h] using Nat.ne_of_gt hn
  rw [EventQueue.pop, if_neg hpop]
  simp only [EventQueue.idleTimer_eq, List.drop_eq_nil_iff]

/-! ### READ STATUS's flags (R59, R159; 11) -/

theorem getLsbD_flag (b : Bool) (k j : Nat) :
    (if b then BitVec.twoPow 8 k else 0#8).getLsbD j = (b && (decide (k < 8) && decide (k = j))) := by
  cases b <;> simp [BitVec.getLsbD_twoPow]

theorem LaneFlags.getLsbD_byte (f : LaneFlags) (overflow locked : Bool) :
    ∀ b ∈ [(0, f.crcError), (1, f.formatError), (2, f.abortSeen), (3, f.fingerprintMismatch), (4, f.txFault), (5, overflow),
      (6, locked), (7, false)], (f.byte overflow locked).getLsbD b.1 = b.2 := by
  simp [LaneFlags.byte, getLsbD_flag]

/-- The station modes by their bytes. -/
theorem Mode.mem_byte (m : Mode) :
    (m, m.byte) ∈ [(Mode.offline, 0#8), (.joining, 1#8), (.active, 2#8), (.quiet, 3#8), (.isolated, 4#8)] := by
  cases m <;> decide

/-! ### The bytes of chapter 11 -/

theorem halfBytes_append (hi lo : Byte) : halfBytes (hi ++ lo) = [hi, lo] :=
  congrArg₂ (fun a b => [a, b]) BitVec.extractLsb'_append_eq_left BitVec.extractLsb'_append_eq_right

theorem mapStateByte_of_mem : ∀ p ∈ mapCodes, mapStateByte p.1 = p.2 := by decide

theorem Origin.byte_of_mem : ∀ p ∈ originCodes, p.1.byte = p.2 := by decide

theorem DetState.byte_of_mem : ∀ p ∈ detectorCodes, p.1.byte = p.2 := by decide

theorem SlotState.byte_of_mem : ∀ p ∈ slotCodes, p.1.byte = p.2 := by decide

theorem Mode.byte_of_mem : ∀ p ∈ modeCodes, p.1.byte = p.2 := by decide

theorem Tier.byte_of_mem : ∀ p ∈ tierCodes, p.1.byte = p.2 := by decide

theorem Condition.byte_of_mem : ∀ p ∈ conditionCodes, p.1.byte = p.2 := by decide

theorem ModeCause.byte_of_mem :
    ∀ p ∈ [(ModeCause.host, 0#8), (.fault, 1#8), (.cooldown, 2#8), (.joinDone, 3#8), (.reset, 4#8)], p.1.byte = p.2 := by
  decide

theorem NoticeKind.byte_of_mem : ∀ p ∈ [(NoticeKind.alert, 0#8), (.update, 1#8), (.beacon, 2#8)], p.1.byte = p.2 := by decide

theorem currentByte_of_mem :
    ∀ p ∈ [((none : Option Tier), 0#8), (some .t1, 1#8), (some .t2, 2#8), (some .t3, 3#8)], currentByte p.1 = p.2 := by
  decide

theorem eventLayout : EventLayout := by
  unfold EventLayout
  intro t x
  dsimp only
  refine ⟨fun c n l hl => ?_, fun c d => rfl, fun c n a => rfl, fun n => ⟨rfl, rfl, rfl⟩, fun o ho n hn g hg e c => ?_,
    fun hi lo e m hm => ?_, fun k hk => ?_, fun l hl => ⟨fun e he => ?_, fun hi lo => ?_, ?_⟩, fun o ho n hn c hc => ?_,
    fun o ho => ⟨?_, fun c hc => ⟨?_, fun n hn => ?_⟩⟩, fun n => rfl⟩
  · rw [← DetState.byte_of_mem _ hl]
    rfl
  · rw [← mapStateByte_of_mem _ ho, ← mapStateByte_of_mem _ hn, ← Origin.byte_of_mem _ hg]
    rfl
  · rw [← mapStateByte_of_mem _ hm]
    simp only [Event.bytes, Detail.bytes, halfBytes_append]
    rfl
  · rw [← NoticeKind.byte_of_mem _ hk]
    rfl
  · rw [← SlotState.byte_of_mem _ hl, ← SlotState.byte_of_mem _ he]
    rfl
  · rw [← SlotState.byte_of_mem _ hl]
    simp only [Event.bytes, Detail.bytes, halfBytes_append]
    rfl
  · rw [← SlotState.byte_of_mem _ hl]
    rfl
  · rw [← Mode.byte_of_mem _ ho, ← Mode.byte_of_mem _ hn, ← ModeCause.byte_of_mem _ hc]
    rfl
  · rw [← Tier.byte_of_mem _ ho]
    rfl
  · rw [← Tier.byte_of_mem _ ho, ← Condition.byte_of_mem _ hc]
    rfl
  · rw [← Tier.byte_of_mem _ ho, ← Tier.byte_of_mem _ hn, ← Condition.byte_of_mem _ hc]
    rfl

/-- The second byte of an entry: three fields that share no bit. -/
theorem entryFlags_eq (mark : Bool) : ∀ m ∈ mapCodes, ∀ o ∈ originCodes,
    mapStateByte m.1 ||| (o.1.byte <<< 2) ||| (if mark then 0x80#8 else 0#8) =
      m.2 + 4#8 * o.2 + (if mark then 128#8 else 0#8) := by
  revert mark
  decide

theorem entryLayout : EntryLayout := by
  intro u e m hm o ho hstate horigin
  rw [entryBytes, hstate, horigin, entryFlags_eq e.mark m hm o ho]
  rfl

/-- The marks of a slot share no bit. -/
theorem slotMarks_eq (deaf joinedMe foreign : Bool) :
    boolByte deaf ||| (boolByte joinedMe <<< 1) ||| (boolByte foreign <<< 2) =
      (if deaf then 1#8 else 0#8) + (if joinedMe then 2#8 else 0#8) + (if foreign then 4#8 else 0#8) := by
  revert deaf joinedMe foreign
  decide

theorem slotBytes_of_peer {x : Slot} (h : x.state ≠ .self) (mode : Mode) :
    slotBytes mode x = [x.state.byte, countByte x.misses,
      boolByte x.deaf ||| (boolByte x.joinedMe <<< 1) ||| (boolByte x.foreign.isSome <<< 2)] ++
        halfBytes (x.foreign.getD 0#16) := by
  unfold slotBytes
  split
  · next hself => exact absurd hself h
  all_goals rfl

theorem slotCodes_ne_self : ∀ p ∈ slotCodes, p.1 ≠ .self := by decide

theorem slotLayout : SlotLayout := by
  intro mode x
  refine ⟨fun m hm hmode hself => ?_, fun p hp hstate hi lo hforeign => ?_⟩
  · rw [slotBytes, hself, hmode, ← Mode.byte_of_mem _ hm]
  · rw [slotBytes_of_peer (hstate ▸ slotCodes_ne_self p hp), hforeign, halfBytes_append, slotMarks_eq, hstate,
      SlotState.byte_of_mem _ hp]
    rfl

theorem memberByte_eq_placeByte (u : Option (Fin 64)) : memberByte u = placeByte u := by
  cases u <;> rfl

theorem tierBytes_eq (members : List (Fin 64)) : tierBytes members = List.ofFn fun k : Fin 8 => placeByte members[k.val]? := by
  simp only [tierBytes, memberByte_eq_placeByte]
  rfl

theorem bucketBytes_eq (buckets : Table (Option (Fin 64)) 32) :
    buckets.cells.map memberByte = List.ofFn fun b => placeByte (buckets.get b) := by
  rw [Table.cells_eq, List.map_ofFn]
  exact congrArg List.ofFn (funext fun b => memberByte_eq_placeByte _)

theorem groupLayout : GroupLayout := by
  intro r c hc hcondition p hp hcurrent
  dsimp only
  rw [Group.bytes, hcondition, hcurrent, Condition.byte_of_mem _ hc, currentByte_of_mem _ hp, tierBytes_eq, tierBytes_eq,
    tierBytes_eq, bucketBytes_eq]
  cases r.revert <;> rfl

end Sys2Proof.Machine
/-! PROOF. The statements of family 09, the management port. -/

namespace Sys2Proof.ManagementPort

open Sys2Proof.Machine

/-- Settles O7: each refusal is the equation of its command, and each frame spells the command of its code. -/
theorem refusedCommandsChangeNothing : Obligations.RefusedCommandsChangeNothing := by
  unfold Obligations.RefusedCommandsChangeNothing
  refine ⟨fun s h a b args bytes hrst => ⟨frameDiscard_of_released hrst, fun _ => ?_,
    fun hlocked => exec_of_locked hrst hlocked h a b args bytes, exec_detectorCommands_of_ge hrst,
    exec_detectorCommands_of_offline hrst, fun hmode => exec_modeCommands_of_offline hrst hmode b,
    exec_start_of_not_offline hrst, exec_rejoin_of_joining_or_active hrst, exec_resteer_of_unconfigured hrst⟩,
    framesSpellCommands⟩
  rw [exec, execUnknownCommand, portCommand_of_released hrst]
  rfl

end Sys2Proof.ManagementPort
namespace Sys2Proof.ManagementPort

open Sys2Proof.Machine

/-! ### Configuration -/

/-- Settles O8: the arguments are judged by their two fields, and a good pair replaces the settings. -/
theorem setStationReplacesThreeSettings : Obligations.SetStationReplacesThreeSettings := by
  unfold Obligations.SetStationReplacesThreeSettings
  refine ⟨fun s fingerprint period silence hrst => ⟨fun hlocked => ?_, fun hopen => ⟨fun hbad => ?_,
    fun p hp hmin hmax => ?_⟩⟩, fun a b c d => rfl⟩
  · exact exec_of_locked hrst hlocked fingerprint period silence ⟨0, 0, 0, 0, 0, 0, 0, 0⟩ [] _ (by simp)
  · refine exec_setStation_of_none hrst hopen fingerprint ?_
    obtain hperiod | hsilence := hbad
    · exact .inl (beaconPeriodArg_eq_none.mpr hperiod)
    · exact .inr (silenceCountArg_of_not_mem hsilence)
  · exact exec_setStation_of_some hrst hopen fingerprint (beaconPeriodArg_of_mem hp) (silenceCountArg_of_mem hmin hmax)

/-- Settles O9: the arguments name a configuration exactly when they are valid. -/
theorem setUplinkReplacesSevenFields : Obligations.SetUplinkReplacesSevenFields := by
  unfold Obligations.SetUplinkReplacesSevenFields
  refine ⟨fun s a hrst => ⟨fun hlocked => ?_, fun hopen => ⟨fun hbad => ?_, fun hvalid i hi q hq htq => ?_⟩⟩,
    fun a b c d e f g h i j => rfl⟩
  · exact exec_of_locked hrst hlocked 0 0 0 a [] _ (by simp)
  · simp only [exec, execSetUplink, configure_of_unlocked hrst hopen, uplinkConfigArg_of_not_valid hbad]
    rfl
  · have hconfig := uplinkConfigArg_of_valid hvalid hi (htq ▸ qualifyArg_of_mem hq)
    simp only [exec, execSetUplink, configure_of_unlocked hrst hopen, hconfig]
    rfl

/-- Settles O12: the group is put in no list, so that every list keeps the other groups. -/
theorem clearGroupForgetsTheGroup : Obligations.ClearGroupForgetsTheGroup := by
  unfold Obligations.ClearGroupForgetsTheGroup
  intro s g hrst hopen
  rw [exec, execClearGroup, configure_of_unlocked hrst hopen]
  refine ⟨_, rfl, rfl, fun u => ?_, rfl⟩
  exact Table.get_tabulate _ u

/-! ### Event reporting -/

/-- Settles O20: the trigger is one of four bytes, and the idle timer starts anew where records are held. -/
theorem setEventReportingReplacesBothSettings : Obligations.SetEventReportingReplacesBothSettings := by
  unfold Obligations.SetEventReportingReplacesBothSettings
  refine fun s timeout hrst => ⟨fun trigger hbad => ?_, fun p hp => ?_⟩
  · simp only [exec, execSetEventReporting, portCommand_of_released hrst, triggerArg_eq_none.mpr hbad]
    rfl
  · simp only [exec, execSetEventReporting, portCommand_of_released hrst, triggerArg_of_mem hp, EventQueue.idleTimer_eq]
    rfl

/-! ### Read commands -/

/-- Settles O21: the flags are seven bits of one byte, each at its own place. -/
theorem readStatusRepliesAndClearsFlags : Obligations.ReadStatusRepliesAndClearsFlags := by
  unfold Obligations.ReadStatusRepliesAndClearsFlags
  intro s hrst
  refine ⟨_, _, s.roster.mode.mem_byte, s.lane.flags.getLsbD_byte s.events.overflow s.port.locked, ?_⟩
  rw [exec, execReadStatus, portCommand_of_released hrst]
  rfl

/-- Settles O22: a count in range pops, and an empty queue stays as it is. -/
theorem readEventsPopsTheOldest : Obligations.ReadEventsPopsTheOldest := by
  unfold Obligations.ReadEventsPopsTheOldest
  refine ⟨fun s n hrst => ⟨fun hbad => ?_, fun hmin hmax hempty => ?_, fun hmin hmax hrecords => ?_⟩,
    fun _ _ => rfl, eventLayout⟩
  · rw [exec, execReadEvents, portCommand_of_released hrst, if_neg (by omega)]
    rfl
  · rw [exec, execReadEvents, portCommand_of_released hrst, if_pos ⟨hmin, hmax⟩, EventQueue.pop_of_empty hempty, hempty,
      List.take_nil]
    rfl
  · rw [exec, execReadEvents, portCommand_of_released hrst, if_pos ⟨hmin, hmax⟩,
      EventQueue.pop_of_ne_empty hrecords _ hmin]
    dsimp only
    rw [List.length_take]
    rfl

/-- Settles O23: a value names one entry, every entry, or none. -/
theorem readMapReturnsAndClearsMarks : Obligations.ReadMapReturnsAndClearsMarks := by
  unfold Obligations.ReadMapReturnsAndClearsMarks
  refine ⟨fun s hrst => ⟨fun b hrange hall => ?_, fun u => ?_, ?_⟩, fun _ _ => rfl, entryLayout⟩
  · have hnone : uplinkArg b = none := dif_neg (by omega)
    simp only [exec, execReadMap, portCommand_of_released hrst, hnone, if_neg hall]
    rfl
  · simp only [exec, execReadMap, portCommand_of_released hrst, Laws.uplinkArg_idByte]
    rfl
  · have hnone : uplinkArg 255#8 = none := rfl
    simp only [exec, execReadMap, portCommand_of_released hrst, hnone, uplinks, List.flatMap_def, List.map_ofFn]
    rfl

/-- Settles O24: a table's cells are its values in ascending order. -/
theorem readRosterAndReadGroupChangeNothing : Obligations.ReadRosterAndReadGroupChangeNothing := by
  unfold Obligations.ReadRosterAndReadGroupChangeNothing
  refine ⟨fun s g hrst => ⟨?_, ?_⟩, slotLayout, groupLayout⟩
  · rw [exec, execReadRoster, portCommand_of_released hrst, Table.cells_eq, List.flatMap_def, List.map_ofFn]
    rfl
  · rw [exec, execReadGroup, portCommand_of_released hrst]
    rfl

end Sys2Proof.ManagementPort

/-! SUPPORT. WRITE GROUP's frame read back: good tiers, a bad count after them, a frame cut short (R149, R154); its member ids
(ground 4), and the member index in ascending order (R124). -/

namespace Sys2Proof.Machine

/-! ### The tier part (R154) -/

/-- What the port makes of a tier part that begins with the tiers `before`. -/
def TierFrame.after (before : List (List Byte)) : TierFrame → TierFrame
  | .complete tiers => .complete (before ++ tiers)
  | .badArgument => .badArgument
  | .incomplete => .incomplete

theorem TierFrame.after_nil (f : TierFrame) : f.after [] = f := by
  cases f <;> rfl

theorem TierFrame.after_after (a b : List (List Byte)) (f : TierFrame) : (f.after b).after a = f.after (a ++ b) := by
  cases f <;> simp [TierFrame.after]

theorem toNat_ofNat_length {m : List Byte} (hm : m.length ≤ 8) : (BitVec.ofNat 8 m.length).toNat = m.length := by
  rw [BitVec.toNat_ofNat]
  omega

theorem readTiers_tierArgs_append {m : List Byte} (hm : 1 ≤ m.length ∧ m.length ≤ 8) (k : Nat) (rest : List Byte) :
    readTiers (k + 1) (tierArgs m ++ rest) = (readTiers k rest).after [m] := by
  have hcount := toNat_ofNat_length hm.2
  rw [tierArgs, List.cons_append, readTiers, hcount, if_neg (by omega), if_neg (by simp), List.drop_left, List.take_left]
  cases readTiers k rest <;> rfl

/-- Good tiers are read one after another. -/
theorem readTiers_flatMap_append {before : List (List Byte)} (hbefore : ∀ m ∈ before, 1 ≤ m.length ∧ m.length ≤ 8) (k : Nat)
    (rest : List Byte) :
    readTiers (before.length + k) (before.flatMap tierArgs ++ rest) = (readTiers k rest).after before := by
  induction before with
  | nil => simp [TierFrame.after_nil]
  | cons m before ih =>
    obtain ⟨hm, hbefore⟩ := List.forall_mem_cons.mp hbefore
    rw [List.length_cons, Nat.add_right_comm, List.flatMap_cons, List.append_assoc, readTiers_tierArgs_append hm, ih hbefore,
      TierFrame.after_after, List.singleton_append]

theorem readTiers_flatMap {tiers : List (List Byte)} (htiers : ∀ m ∈ tiers, 1 ≤ m.length ∧ m.length ≤ 8) :
    readTiers tiers.length (tiers.flatMap tierArgs) = .complete tiers := by
  simpa [readTiers, TierFrame.after] using readTiers_flatMap_append htiers 0 []

/-- A member count out of range ends the tier part (ground 3). -/
theorem readTiers_bad {bad : Byte} (hbad : bad.toNat = 0 ∨ 8 < bad.toNat) (k : Nat) (rest : List Byte) :
    readTiers (k + 1) (bad :: rest) = .badArgument := by
  rw [readTiers, if_pos hbad]

/-- A tier cut before its last member is incomplete. -/
theorem readTiers_take_tierArgs {m : List Byte} (hm : 1 ≤ m.length ∧ m.length ≤ 8) {cut : Nat} (hcut : cut ≤ m.length)
    (k : Nat) :
    readTiers (k + 1) ((tierArgs m).take cut) = .incomplete := by
  cases cut with
  | zero => rfl
  | succ cut =>
    have hcount := toNat_ofNat_length hm.2
    rw [tierArgs, List.take_succ_cons, readTiers, hcount, if_neg (by omega), if_pos (by rw [List.length_take]; omega)]

/-- A tier part cut before its last byte is incomplete. -/
theorem readTiers_take {tiers : List (List Byte)} (htiers : ∀ m ∈ tiers, 1 ≤ m.length ∧ m.length ≤ 8) {cut : Nat}
    (hcut : cut < (tiers.flatMap tierArgs).length) :
    readTiers tiers.length ((tiers.flatMap tierArgs).take cut) = .incomplete := by
  induction tiers generalizing cut with
  | nil => simp at hcut
  | cons m tiers ih =>
    obtain ⟨hm, htiers⟩ := List.forall_mem_cons.mp htiers
    have hlength : (tierArgs m).length = m.length + 1 := rfl
    rw [List.flatMap_cons, List.length_append] at hcut
    rw [List.flatMap_cons, List.length_cons]
    by_cases hinside : cut ≤ m.length
    · rw [List.take_append_of_le_length (by omega), readTiers_take_tierArgs hm hinside]
    · rw [List.take_append, List.take_of_length_le (by omega), readTiers_tierArgs_append hm, ih htiers (by omega),
        TierFrame.after]

/-! ### The whole frame (R154) -/

/-- The revert mode that a revert byte of 0 or 1 names. -/
def revertOf (b : Byte) : RevertMode := if b = 1#8 then .sticky else .revertive

theorem revertArg_eq (b : Byte) : revertArg b = if b.toNat ≤ 1 then some (revertOf b) else none := by
  revert b
  decide

/-- The frame of a group and a revert mode whose tier part is `f`. -/
def GroupFrame.ofTiers (g : Fin 256) (revert : RevertMode) : TierFrame → GroupFrame
  | .complete tiers => .complete g revert tiers
  | .badArgument => .badArgument
  | .incomplete => .incomplete

section GroupFrame

variable {g revert : Byte}

theorem readGroupFrame_of_bad_revert (hrevert : 1 < revert.toNat) (rest : List Byte) :
    readGroupFrame (g :: revert :: rest) = .badArgument := by
  have hnone : revertArg revert = none := by rw [revertArg_eq, if_neg (by omega)]
  simp only [readGroupFrame, hnone]

theorem revertArg_of_le (hrevert : revert.toNat ≤ 1) : revertArg revert = some (revertOf revert) := by
  rw [revertArg_eq, if_pos hrevert]

theorem readGroupFrame_of_bad_count (hrevert : revert.toNat ≤ 1) {count : Byte} (hcount : count.toNat = 0 ∨ 3 < count.toNat)
    (rest : List Byte) : readGroupFrame (g :: revert :: count :: rest) = .badArgument := by
  simp only [readGroupFrame, revertArg_of_le hrevert, if_pos hcount]

theorem readGroupFrame_of_count (hrevert : revert.toNat ≤ 1) {count : Byte} (hmin : 1 ≤ count.toNat) (hmax : count.toNat ≤ 3)
    (rest : List Byte) :
    readGroupFrame (g :: revert :: count :: rest) = .ofTiers g.toFin (revertOf revert) (readTiers count.toNat rest) := by
  have hcount : ¬ (count.toNat = 0 ∨ 3 < count.toNat) := by omega
  simp only [readGroupFrame, revertArg_of_le hrevert, if_neg hcount]
  cases readTiers count.toNat rest <;> rfl

variable {tiers : List (List Byte)}

theorem toNat_ofNat_tiers (hshape : TierShape tiers) : (BitVec.ofNat 8 tiers.length).toNat = tiers.length := by
  obtain ⟨-, hmax, -⟩ := hshape
  rw [BitVec.toNat_ofNat]
  omega

theorem readGroupFrame_groupArgs (hrevert : revert.toNat ≤ 1) (hshape : TierShape tiers) :
    readGroupFrame (groupArgs g revert tiers) = .complete g.toFin (revertOf revert) tiers := by
  have hcount := toNat_ofNat_tiers hshape
  obtain ⟨hmin, hmax, htiers⟩ := hshape
  rw [groupArgs, readGroupFrame_of_count hrevert (by omega) (by omega), hcount, readTiers_flatMap htiers, GroupFrame.ofTiers]

theorem readGroupFrame_take (hrevert : revert.toNat ≤ 1) (hshape : TierShape tiers) {cut : Nat}
    (hcut : cut < (groupArgs g revert tiers).length) :
    readGroupFrame ((groupArgs g revert tiers).take cut) = .incomplete := by
  have hcount := toNat_ofNat_tiers hshape
  obtain ⟨hmin, hmax, htiers⟩ := hshape
  match cut with
  | 0 | 1 => rfl
  | 2 => simp only [groupArgs, List.take_succ_cons, List.take_zero, readGroupFrame, revertArg_of_le hrevert]
  | cut + 3 =>
    have hcut' : cut < (tiers.flatMap tierArgs).length := by
      simpa [groupArgs] using hcut
    rw [groupArgs, List.take_succ_cons, List.take_succ_cons, List.take_succ_cons,
      readGroupFrame_of_count hrevert (by omega) (by omega), hcount, readTiers_take htiers hcut', GroupFrame.ofTiers]

end GroupFrame

/-! ### Member ids (ground 4) -/

section MapM

variable {α β : Type} {f : α → Option β} {g : β → α}

theorem mapM_map_of_leftInverse (h : ∀ b, f (g b) = some b) (l : List β) : (l.map g).mapM f = some l := by
  induction l with
  | nil => rfl
  | cons b l ih => simp [h, ih]

theorem eq_map_of_mapM_eq_some (h : ∀ a b, f a = some b → a = g b) {l : List α} {l' : List β} (hl : l.mapM f = some l') :
    l = l'.map g := by
  induction l generalizing l' with
  | nil =>
    cases hl
    rfl
  | cons a l ih =>
    simp only [List.mapM_cons, Option.bind_eq_bind, Option.bind_eq_some_iff, Option.pure_def, Option.some_inj] at hl
    obtain ⟨b, hb, rest, hrest, rfl⟩ := hl
    rw [List.map_cons, ← h a b hb, ← ih hrest]

end MapM

theorem eq_idByte_of_uplinkArg {b : Byte} {u : Fin 64} (h : uplinkArg b = some u) : b = idByte u := by
  unfold uplinkArg at h
  split at h
  · cases h
    simp [idByte]
  · cases h

theorem toNat_idByte_lt (u : Fin 64) : (idByte u).toNat < 64 := by
  rw [idByte, BitVec.toNat_ofNat]
  omega

theorem idByte_injective : Function.Injective (idByte : Fin 64 → Byte) := fun u v h =>
  Option.some_inj.mp (by rw [← Laws.uplinkArg_idByte u, h, Laws.uplinkArg_idByte])

theorem memberIds_map_idByte (tiers : List (List (Fin 64))) :
    (tiers.map fun m => m.map idByte).mapM memberIds = some tiers :=
  mapM_map_of_leftInverse (mapM_map_of_leftInverse Laws.uplinkArg_idByte) tiers

/-- The bytes of tiers whose ids are in range are the bytes of those ids. -/
theorem eq_map_idByte_of_memberIds {tiers : List (List Byte)} {ids : List (List (Fin 64))}
    (h : tiers.mapM memberIds = some ids) :
    tiers = ids.map fun m => m.map idByte :=
  eq_map_of_mapM_eq_some (fun _ _ => eq_map_of_mapM_eq_some fun _ _ => eq_idByte_of_uplinkArg) h

/-! ### The definition judged (grounds 4 to 6) -/

namespace State

variable {s : State} {g : Fin 256} {revert : RevertMode}

/-- Ids out of range or repeated are refused (grounds 4 and 5). -/
theorem defineGroup_of_bad {tiers : List (List Byte)} (hbad : (∃ m ∈ tiers.flatten, 64 ≤ m.toNat) ∨ ¬ tiers.flatten.Nodup) :
    s.defineGroup g revert tiers = answered s [4#8] := by
  unfold defineGroup
  split
  · rfl
  · next ids hids =>
    have hbytes : tiers.flatten = ids.flatten.map idByte := by
      rw [eq_map_idByte_of_memberIds hids, List.map_flatten]
    have hnodup : ¬ ids.flatten.Nodup := by
      intro hnodup
      obtain ⟨m, hm, hrange⟩ | hrepeated := hbad
      · rw [hbytes, List.mem_map] at hm
        obtain ⟨u, -, rfl⟩ := hm
        exact absurd hrange (not_le.mpr (toNat_idByte_lt u))
      · exact hrepeated (hbytes ▸ hnodup.map idByte_injective)
    rw [if_neg hnodup]
    rfl

variable {tiers : List (List (Fin 64))}

theorem defineGroup_of_full (hnodup : tiers.flatten.Nodup) (hfull : 4096 < referencesAfter s g tiers.flatten.length) :
    s.defineGroup g revert (tiers.map fun m => m.map idByte) = answered s [5#8] := by
  have hlimit : Config.indexLimit < s.totalAfter g tiers.flatten.length := hfull
  simp only [defineGroup, memberIds_map_idByte, if_pos hnodup, if_pos hlimit]
  rfl

theorem defineGroup_of_fit (hnodup : tiers.flatten.Nodup) (hfit : referencesAfter s g tiers.flatten.length ≤ 4096) :
    s.defineGroup g revert (tiers.map fun m => m.map idByte) =
      answered { s with
        groups := s.groups.set g ⟨true, revert, tiers, none, .fill none, .blackhole⟩
        engine := { s.engine with index := reindex s.engine.index g tiers.flatten } } [0#8] := by
  have hlimit : ¬ Config.indexLimit < s.totalAfter g tiers.flatten.length := Nat.not_lt.mpr hfit
  simp only [defineGroup, memberIds_map_idByte, if_pos hnodup, if_neg hlimit]
  rfl

end State

/-! ### The member index in ascending order (R124) -/

theorem pairwise_insertAscending {l : List (Fin 256)} (h : l.Pairwise fun a b => a.val < b.val) (g : Fin 256) :
    (insertAscending g l).Pairwise fun a b => a.val < b.val := by
  induction l with
  | nil => exact List.pairwise_singleton _ g
  | cons x rest ih =>
    obtain ⟨hfirst, hrest⟩ := List.pairwise_cons.mp h
    unfold insertAscending
    split
    · next hlt => exact List.pairwise_cons.mpr ⟨List.forall_mem_cons.mpr ⟨hlt, fun y hy => hlt.trans (hfirst y hy)⟩, h⟩
    · next hge =>
      split
      · exact h
      · next hne =>
        refine List.pairwise_cons.mpr ⟨fun y hy => ?_, ih hrest⟩
        obtain rfl | hy := mem_insertAscending.mp hy
        · exact lt_of_le_of_ne (not_lt.mp hge) fun heq => hne (Fin.ext heq.symm)
        · exact hfirst y hy

theorem pairwise_reindex {index : Table (List (Fin 256)) 64} {u : Fin 64}
    (h : (index.get u).Pairwise fun a b => a.val < b.val) (g : Fin 256) (members : List (Fin 64)) :
    ((reindex index g members).get u).Pairwise fun a b => a.val < b.val := by
  rw [reindex, Table.get_tabulate]
  exact iteInduction (fun _ => pairwise_insertAscending (h.filter _) g) fun _ => h.filter _

/-! ### WRITE GROUP (R118, R154) -/

section WriteGroup

variable {s : State} {args : List Byte} (hrst : s.rstHeld = false) (hopen : s.port.locked = false)
include hrst hopen

theorem exec_writeGroup_of_incomplete (h : readGroupFrame args = .incomplete) :
    exec (.writeGroup args) s = .next { s with port := { s.port with frame := .closed } } := by
  simp only [exec, execWriteGroup, configure_of_unlocked hrst hopen, h]
  rfl

theorem exec_writeGroup_of_badArgument (h : readGroupFrame args = .badArgument) :
    exec (.writeGroup args) s = .next (answered s [4#8]) := by
  simp only [exec, execWriteGroup, configure_of_unlocked hrst hopen, h]
  rfl

theorem exec_writeGroup_of_complete {g revert : Byte} {tiers : List (List Byte)} (hrevert : revert.toNat ≤ 1)
    (hshape : TierShape tiers) :
    exec (.writeGroup (groupArgs g revert tiers)) s = .next (s.defineGroup g.toFin (revertOf revert) tiers) := by
  simp only [exec, execWriteGroup, configure_of_unlocked hrst hopen, readGroupFrame_groupArgs hrevert hshape]

end WriteGroup

theorem tierShape_map {α β : Type} (f : α → β) {tiers : List (List α)} (h : TierShape tiers) :
    TierShape (tiers.map fun m => m.map f) := by
  simpa [TierShape] using h

end Sys2Proof.Machine

namespace Sys2Proof.ManagementPort

open Sys2Proof.Machine

/-! ### WRITE GROUP -/

/-- Settles O10: the frame reads back as the definition sent, which passes every ground. -/
theorem writeGroupDefinesTheGroup : Obligations.WriteGroupDefinesTheGroup := by
  unfold Obligations.WriteGroupDefinesTheGroup
  intro s g sticky tiers hrst hopen hshape hnodup hfit
  have hbyte : (if sticky then 1#8 else 0#8).toNat ≤ 1 := by cases sticky <;> decide
  have hrevert : revertOf (if sticky then 1#8 else 0#8) = if sticky then .sticky else .revertive := by cases sticky <;> rfl
  rw [exec_writeGroup_of_complete hrst hopen hbyte (tierShape_map idByte hshape), State.defineGroup_of_fit hnodup hfit, hrevert]
  refine ⟨_, rfl, rfl, fun u h => ?_, fun u hsorted => pairwise_reindex hsorted _ _, rfl⟩
  refine mem_reindex.trans ?_
  by_cases heq : h = g.toFin <;> simp [heq]

/-- Settles O11: each ground by what the port makes of the frame; a frame cut short is incomplete. -/
theorem writeGroupRefusals : Obligations.WriteGroupRefusals := by
  unfold Obligations.WriteGroupRefusals
  intro s g revert hrst hopen
  refine ⟨fun rest hbad => ?_, fun count rest hrevert hbad => ?_,
    fun count bad before rest hrevert hmin hmax hlength hbefore hbad => ?_, fun tiers hrevert hshape hbad => ?_,
    fun tiers hrevert hshape hnodup hfull => ?_, fun tiers cut hrevert hshape hcut => ?_⟩
  · exact exec_writeGroup_of_badArgument hrst hopen (readGroupFrame_of_bad_revert hbad rest)
  · exact exec_writeGroup_of_badArgument hrst hopen (readGroupFrame_of_bad_count hrevert hbad rest)
  · refine exec_writeGroup_of_badArgument hrst hopen ?_
    obtain ⟨k, hk⟩ := Nat.exists_eq_add_of_lt hlength
    rw [readGroupFrame_of_count hrevert hmin hmax, hk, Nat.add_assoc, readTiers_flatMap_append hbefore, readTiers_bad hbad,
      TierFrame.after, GroupFrame.ofTiers]
  · rw [exec_writeGroup_of_complete hrst hopen hrevert hshape, State.defineGroup_of_bad hbad]
  · rw [exec_writeGroup_of_complete hrst hopen hrevert (tierShape_map idByte hshape), State.defineGroup_of_full hnodup hfull]
  · exact exec_writeGroup_of_incomplete hrst hopen (readGroupFrame_take hrevert hshape hcut)

end Sys2Proof.ManagementPort

/-! SUPPORT. A push by the queue's count (R165), with the idle timer it starts (R167). -/

namespace Sys2Proof.Machine

/-- The idle timer's start in units of 100 µs, none at a timeout of 0 (R167). -/
theorem EventQueue.idleStart_eq (q : EventQueue) (t : Nat) :
    q.idleStart t = if q.idleTimeout = 0#8 then none else some (t + q.idleTimeout.toNat * 2000) := rfl

theorem EventQueue.push_of_lt {q : EventQueue} (hroom : q.records.length < 32) (t : Nat) (e : Event) :
    q.push t e = { q with records := q.records ++ [e], idleTimer := q.idleStart t } :=
  if_pos hroom

theorem EventQueue.push_of_ge {q : EventQueue} (hfull : 32 ≤ q.records.length) (t : Nat) (e : Event) :
    q.push t e = { q with overflow := true } :=
  if_neg (Nat.not_lt.mpr hfull)

theorem State.push_eq_withEvents (s : State) (subject : Byte) (d : Detail) :
    s.push subject d = s.withEvents (s.events.push s.ticks ⟨s.now, subject, d⟩) := rfl

end Sys2Proof.Machine

/-! PROOF. The push of an event record into the Event Queue. -/

namespace Sys2Proof.EventQueueAndInterruptLine

open Sys2Proof.Machine

/-- Settles O54: by the count of records held, with room at the tail or none. -/
theorem pushJoinsTheTailOrOverflows : Obligations.PushJoinsTheTailOrOverflows := by
  unfold Obligations.PushJoinsTheTailOrOverflows
  intro s subject d
  refine ⟨fun hroom => ?_, fun hfull => ?_⟩
  · rw [State.push_eq_withEvents, EventQueue.push_of_lt hroom, EventQueue.idleStart_eq]
    rfl
  · rw [State.push_eq_withEvents, EventQueue.push_of_ge hfull]
    rfl

end Sys2Proof.EventQueueAndInterruptLine

/-! SUPPORT. The step that finds a command waiting, beside `step_of_edge` and `step_of_quiet_ports`. -/

namespace Sys2Proof.Machine

theorem step_of_command {s : State} {c : Instr} {rest : List Instr} (h : s.pending = c :: rest) :
    step s = exec c { s with pending := rest } := by
  simp only [step, h]

end Sys2Proof.Machine

/-! PROOF. The command at the front of the queue. -/

namespace Sys2Proof.WhatEachStepHolds

open Sys2Proof.Machine

/-- Settles O1: the branch of a step that finds a command waiting. -/
theorem stepTakesTheFrontCommand : Obligations.StepTakesTheFrontCommand := by
  unfold Obligations.StepTakesTheFrontCommand
  intro c s rest hpending
  exact step_of_command hpending

end Sys2Proof.WhatEachStepHolds
